-- ==== Sys2Proof/Word.lean ====
section
/-!
DEFINITION. The widths of the numbers the Ehlori ND-24 sends, reads and holds (spec/12_frame_and_record_layouts.md).
-/
namespace Sys2Proof

/-- One byte of any line. -/
abbrev Byte := BitVec 8
/-- A two-byte field: a command number, a round stamp. -/
abbrev Half := BitVec 16
/-- The 32-bit round number (R22). -/
abbrev RoundNumber := BitVec 32
/-- A 24-bit car number; 0 names no car (R29). -/
abbrev CarNumber := BitVec 24
/-- A length code, 0 to 15 (R1). -/
abbrev Code := BitVec 4
/-- An uplink or downlink sequence, 0 to 15. -/
abbrev Seq := BitVec 4
/-- A roster index, 0 to 23 (R27). -/
abbrev Index := Fin 24

end Sys2Proof
end

