-- ==== Sys2Proof/Syntax.lean ====
section
/-!
DEFINITION. The commands of the block: one constructor of `Instr` for each row of spec/opcode_table.json, with the operands
that the row's event brings from outside (a request's tag and fields, what the modem or a neighbour delivered).
-/
namespace Sys2Proof

/-- The two causes of a full reset (R177). -/
inductive ResetCause where
  | power | line
  deriving DecidableEq, Repr

/-- The two strap pins that fix the control-link rate (R161); `true` is high. -/
structure Straps where
  first : Bool
  second : Bool
  deriving DecidableEq, Repr

/-- The two chain ports. -/
inductive PortId where
  | up | down
  deriving DecidableEq, Repr

/-- The moment at which a quiet claim arrives (R141, R142): its offset in AU from the start of the round in progress, and the
plan positions and join slots of that round in whose windows a burst has begun by then. Without a round in progress it is not
read. -/
structure Moment where
  offset : Nat
  bursts : List (Fin 24)
  joins : List (Fin 4)
  deriving DecidableEq, Repr

/-- The modem's result for an uplink window (R66). Margin and corrections are the modem's readings, not yet limited (R52);
`bytes` are the bytes of the burst, header to check word. -/
inductive UplinkResult where
  | nothing
  | checkFailed
  | passed (margin corrections : Nat) (bytes : List Byte)
  deriving DecidableEq, Repr

/-- The modem's result for a join window (R32). -/
inductive JoinResult where
  | nothing
  | undecodable
  | passed (bytes : List Byte)
  deriving DecidableEq, Repr

/-- The body of an OFFER frame (12.2, R105), field by field as sent. -/
structure OfferBody where
  car : CarNumber
  cls : Byte
  allowance : Byte
  survey : Byte
  score : Byte
  lastSeq : Byte
  nextSeq : Byte
  deriving DecidableEq, Repr

/-- The body of an ACCEPT frame (12.2, R105). -/
structure AcceptBody where
  car : CarNumber
  index : Byte
  channel : Byte
  cls : Byte
  deriving DecidableEq, Repr

/-- The body of a PASS frame (12.2, R134); its payload length is the length of `payload`. -/
structure PassBody where
  origin : Byte
  car : CarNumber
  kind : Byte
  stamp : Half
  margin : Byte
  corrections : Byte
  payload : List Byte
  deriving DecidableEq, Repr

/-- The body of a chain frame, by kind (12.2). -/
inductive ChainBody where
  | offer (body : OfferBody)
  | accept (body : AcceptBody)
  | refuse (car : CarNumber) (reason : Byte)
  | cancel (car : CarNumber)
  | done (car : CarNumber)
  | pass (body : PassBody)
  deriving DecidableEq, Repr

/-- A chain frame: source node, destination node, hop count and body (12.2). -/
structure ChainFrame where
  src : Byte
  dst : Byte
  hop : Byte
  body : ChainBody
  deriving DecidableEq, Repr

/-- A control-link frame from the host that passed the frame check: kind, tag, body (R162). -/
structure Request where
  kind : Byte
  tag : Byte
  body : List Byte
  deriving DecidableEq, Repr

/-- The commands of the block, one constructor per row of spec/opcode_table.json, in the table's order. -/
inductive Instr where
  /-- FULL_RESET (R177): its cause, the strap pins, and the level of QUIET_REQ at the end of start-up (R148). -/
  | fullReset (cause : ResetCause) (straps : Straps) (quietReq : Bool)
  /-- REQUEST_RECEIVED (R164): a frame that passed the frame check. -/
  | requestReceived (kind tag : Byte) (body : List Byte)
  | controlBadFrame
  | controlGapTimeout
  | badRequest (kind tag : Byte) (body : List Byte)
  | status (tag : Byte)
  | restart (tag : Byte)
  /-- RESTART_TAKES_EFFECT (R169): with the level of QUIET_REQ at the end of start-up (R148). -/
  | restartTakesEffect (quietReq : Bool)
  | set (tag group : Byte) (fields : List Byte)
  | get (tag group : Byte)
  | save (tag : Byte)
  | saveEraseDone
  /-- SAVE_BYTE_PROGRAMMED (R175): with what the byte just programmed reads back as. -/
  | saveByteProgrammed (readBack : Byte)
  | start (tag : Byte)
  | stop (tag : Byte)
  | stepRound (tag : Byte)
  | plan (tag : Byte)
  | roster (tag part first : Byte)
  | admitCar (tag : Byte) (car : CarNumber)
  | deny (tag : Byte) (car : CarNumber) (bar : Half)
  | evict (tag : Byte) (car : CarNumber) (bar : Half)
  | setOrder (tag : Byte) (list : List Byte)
  | survey (tag : Byte) (car : CarNumber) (value : Byte)
  | send (tag : Byte) (car : CarNumber) (kind : Byte) (payload : List Byte) (expiry : Half) (notify : Byte)
  | withdraw (tag : Byte) (number : Half)
  | broadcast (tag : Byte) (payload : List Byte) (repeats urgent : Byte)
  | take (tag queue count : Byte)
  | peek (tag queue : Byte)
  | flush (tag queue : Byte)
  /-- QUIET (R140): on or off, and the moment it is taken (R141). -/
  | quiet (tag value : Byte) (moment : Moment)
  | counts (tag scope index : Byte)
  | clearCounts (tag scope index : Byte)
  | controlFrameSent
  | roundStart
  | offerTimerExpiry (index : Index)
  | moveTimerExpiry (index : Index)
  | arrivalTimerExpiry (index : Index)
  | confirmTimerExpiry (index : Index)
  | barExpiry (car : CarNumber)
  | commandExpiry (number : Half)
  | broadcastDone
  | roundComplete
  | slotStart (position : Fin 24)
  /-- UPLINK_WINDOW_CLOSE (R72): how many rounds have begun since the window's own (0, or more when a burst outlasted its
  round), its plan position, and the modem's result. -/
  | uplinkWindowClose (ago : Fin 3) (position : Fin 24) (result : UplinkResult)
  /-- JOIN_WINDOW_CLOSE (R32): likewise, with the number of the join slot. -/
  | joinWindowClose (ago : Fin 3) (slot : Fin 4) (result : JoinResult)
  | strayBurst
  /-- QUIET_BREACH (R147): the car number if the burst's check passed, and whether the quiet state was SILENT (else
  DRAINING) when the burst began. -/
  | quietBreach (car : Option CarNumber) (silent : Bool)
  | lineClaimArrives (moment : Moment)
  | lineClaimWithdrawn
  | drainEnd
  | offerReceived (port : PortId) (src dst : Byte) (body : OfferBody)
  | acceptReceived (port : PortId) (src dst : Byte) (body : AcceptBody)
  | refuseReceived (port : PortId) (src dst : Byte) (car : CarNumber) (reason : Byte)
  | doneReceived (port : PortId) (src dst : Byte) (car : CarNumber)
  | cancelReceived (port : PortId) (src dst : Byte) (car : CarNumber)
  | passReceived (port : PortId) (src dst hop : Byte) (body : PassBody)
  | chainBadFrame (port : PortId)
  | portUp (port : PortId)
  /-- PORT_DOWN (R128): with whether a frame was being received whose bytes were not taken one by one (R133; log 3). -/
  | portDown (port : PortId) (receiving : Bool)
  | chainFrameSent (port : PortId)
  | quietTimerTick
  | resetAsserted
  deriving DecidableEq, Repr

end Sys2Proof
end

