-- ==== Sys2Proof/Decode.lean ====
section
/-!
DEFINITION. The command that a word spells by the bits of spec/opcode_table.json. No row of the table gives bits ("fields":
[], no "fixed" and no pattern): a command is an event, not a word, so no word spells one.
-/
namespace Sys2Proof

/-- The command spelled by the `nbits` table bits `w`: none, since no row of the table has bits. -/
def decodeTableWord (_nbits _w : Nat) : Option Instr := none

end Sys2Proof
end

