-- ==== Sys2Proof/Config.lean ====
section
/-!
DEFINITION. What the spec leaves open as a value: constants without a body, so that no proof can see them.
-/
namespace Sys2Proof.Config

/-- The round number that follows 4,294,967,295. R22 makes the round number a 32-bit count and states no result past its
top; nothing constrains this value (DESIGN CHOICE, log 1). The argument counts its uses. -/
opaque roundNumberPastTop : Nat → RoundNumber

end Sys2Proof.Config
end

