-- ==== Sys2Proof/Machine/State.lean ====
section
/-!
DEFINITION. The state of the Ehlori ND-24: everything the spec gives the part, grouped by the block that owns it, as plain
data, and its value right after a full reset. INVENTORY.md lists each field with the rule that names it.
-/
namespace Sys2Proof.Machine

/-! ### Names of states and choices (12.5) -/

/-- The seven states of a roster entry (R28). -/
inductive EntryState where
  | free | pending | joining | active | offering | moving | arriving
  deriving DecidableEq, Repr

/-- The three rate classes (R1): A fastest, C most robust. -/
inductive RateClass where
  | a | b | c
  deriving DecidableEq, Repr

/-- The five states of the round engine (1.5). -/
inductive EngineState where
  | stopped | running | stopping | paused | stepping
  deriving DecidableEq, Repr

/-- The three states of the quiet controller (8.2); `opened` is OPEN. -/
inductive QuietState where
  | opened | draining | silent
  deriving DecidableEq, Repr

/-- The store state (R174). -/
inductive StoreState where
  | valid | invalid | saving
  deriving DecidableEq, Repr

/-- Where the settings of the last full reset came from (R177). -/
inductive SettingsSource where
  | loaded | defaults
  deriving DecidableEq, Repr

/-- The reasons of a denial answer (R41). -/
inductive DenialReason where
  | denied | noRoom | noAirtime
  deriving DecidableEq, Repr

/-- The reasons of a REFUSE frame and of HANDOVER_REFUSED (R105, R114). -/
inductive RefuseReason where
  | full | airtime | busy | present | stopped | noAnswer
  deriving DecidableEq, Repr

/-- The reasons of DEPARTED (R40, R45). -/
inductive DepartReason where
  | silent | neverHeard | confirmTimeout
  deriving DecidableEq, Repr

/-- The reasons of UNDELIVERED (R95, R100, R101). -/
inductive UndeliveredReason where
  | noAck | departed | evicted | moved | tooLong
  deriving DecidableEq, Repr

/-- The cause READY carries (R177, R178). -/
inductive ReadyCause where
  | power | line | restart
  deriving DecidableEq, Repr

/-- The reply statuses (R165). -/
inductive Status where
  | ok | busy | badRequest | badValue | badState | unconfigured | unknownCar | moving | tooLong | poolFull | carFull
  | queueFull | noAirtime | noRoom | tooLate | notFound | sentOnce | badOrder | empty
  deriving DecidableEq, Repr

/-! ### Settings (R171) -/

inductive PortalDirection where
  | up | down | self
  deriving DecidableEq, Repr

inductive RoundMode where
  | free | stepped
  deriving DecidableEq, Repr

inductive Admission where
  | auto | confirm
  deriving DecidableEq, Repr

inductive PatternKind where
  | bands | fixed
  deriving DecidableEq, Repr

/-- The destination of a filter entry (R74). -/
inductive Destination where
  | queue (q : Fin 4) | passAlong | discard
  deriving DecidableEq, Repr

structure NodeGroup where
  node : Byte
  channel : Byte
  upNeighbour : Byte
  downNeighbour : Byte
  portal : PortalDirection
  autostart : Bool
  deriving DecidableEq, Repr

structure RoundGroup where
  period : Nat
  g1 : Nat
  g2 : Nat
  joinSlots : Nat
  pd : Code
  mode : RoundMode
  deriving DecidableEq, Repr

structure RosterGroup where
  admission : Admission
  confirmTimeout : Nat
  missLimit : Nat
  graceRounds : Nat
  deriving DecidableEq, Repr

structure LinkGroup where
  demote : Nat
  promote : Nat
  promoteRounds : Nat
  hysteresis : Nat
  leadRounds : Nat
  deriving DecidableEq, Repr

structure HandoverGroup where
  enable : Bool
  offerTimeout : Nat
  moveTimeout : Nat
  arrivalTimeout : Nat
  deriving DecidableEq, Repr

structure DownlinkGroup where
  retryLimit : Nat
  pacing : Nat
  deriving DecidableEq, Repr

/-- The settings of one receive queue (R77); threshold 0 is EACH (12.5). -/
structure QueueSetting where
  depth : Nat
  storage : Code
  threshold : Nat
  notice : Bool
  deriving DecidableEq, Repr

structure QueuesGroup where
  queue : Vector QueueSetting 4
  survey : Fin 4
  portal : Fin 4
  deriving DecidableEq, Repr

/-- One entry of the filter table (R74); car match 0 is ANY (R180). -/
structure FilterEntry where
  enable : Bool
  low : Nat
  high : Nat
  car : CarNumber
  dest : Destination
  deriving DecidableEq, Repr

structure PatternGroup where
  kind : PatternKind
  bands : Nat
  bandSize : Nat
  block : Nat
  bytes : List Byte
  deriving DecidableEq, Repr

/-- The live settings image: the nine groups (R171). -/
structure Settings where
  node : NodeGroup
  round : RoundGroup
  roster : RosterGroup
  link : LinkGroup
  handover : HandoverGroup
  downlink : DownlinkGroup
  queues : QueuesGroup
  filter : List FilterEntry
  pattern : PatternGroup
  deriving DecidableEq, Repr

/-- The values in force of the five live groups (R171, R172). -/
structure LiveSettings where
  roster : RosterGroup
  link : LinkGroup
  handover : HandoverGroup
  downlink : DownlinkGroup
  pattern : PatternGroup
  deriving DecidableEq, Repr

/-- For each live group, whether its image values are held as pending (R172, R173). -/
structure Unapplied where
  roster : Bool
  link : Bool
  handover : Bool
  downlink : Bool
  pattern : Bool
  deriving DecidableEq, Repr

/-! ### The control link (10) -/

/-- The notices (10.6), each with the fields its owning rule names, in that order. -/
inductive Notice where
  | ready (cause : ReadyCause) (source : SettingsSource)
  | roundDone (round : RoundNumber) (abandoned : Bool)
  | stopped (round : RoundNumber)
  | joinAsked (car : CarNumber) (index : Index) (requested : Code) (sample : Nat) (carType : Byte) (build : BitVec 24)
  | joined (car : CarNumber) (index : Index) (cls : RateClass) (code : Code)
  | departed (car : CarNumber) (index : Index) (reason : DepartReason) (lastHeard : RoundNumber)
  | rateChanged (car : CarNumber) (old new : RateClass)
  | rateHeld (car : CarNumber) (kept wanted : RateClass)
  | handoverOffered (car : CarNumber) (index : Index) (peer : Byte) (cls : RateClass) (code : Code)
  | handoverRefused (car : CarNumber) (index : Index) (peer : Byte) (reason : RefuseReason)
  | handedOver (car : CarNumber) (index : Index) (peer : Byte) (present : Bool)
  | handoverLost (car : CarNumber) (index : Index) (peer : Byte) (lastHeard : RoundNumber)
  | arrived (car : CarNumber) (index : Index) (peer : Byte) (cls : RateClass) (code : Code)
  | arrivalFailed (car : CarNumber) (index : Index) (peer : Byte)
  | arrivalCancelled (car : CarNumber) (index : Index) (peer : Byte)
  | delivered (number : Half) (car : CarNumber) (sends : Nat)
  | undelivered (number : Half) (car : CarNumber) (reason : UndeliveredReason) (sent : Bool)
  | expired (number : Half) (car : CarNumber) (sent : Bool)
  | broadcastDone (id : Byte)
  | queueReady (queue : Fin 4) (count : Nat)
  | queueLost (queue : Fin 4) (lost : Nat)
  | quietBegin (line host : Bool)
  | quietEnd (duration : Nat)
  | quietBreach (car : CarNumber) (state : QuietState) (round : RoundNumber)
  | storeDone
  | storeFault (offset : Nat)
  | noticesLost (count : Nat)
  deriving DecidableEq, Repr

/-- A reply (R163, R165): its kind and tag, status and the bytes after the status, and whether it answers a refusal of the
busy list (else the request in the buffer). -/
structure Reply where
  kind : Byte
  tag : Byte
  status : Status
  body : List Byte
  busy : Bool
  deriving DecidableEq, Repr

/-- The frame on the control link's transmit line (R167). -/
inductive LineFrame where
  | reply (r : Reply)
  | notice (n : Notice)
  deriving DecidableEq, Repr

/-- A place of the request buffer (R164): `taken` once the request has been taken, or answered BUSY by a RESTART. -/
structure BufferedRequest where
  request : Request
  taken : Bool
  deriving DecidableEq, Repr

/-- A refusal of the busy list (R164). -/
structure Refused where
  kind : Byte
  tag : Byte
  deriving DecidableEq, Repr

/-- A byte as a line's receiver takes it: its value, and whether its stop bit was good (R127, R161). -/
structure LineByte where
  value : Byte
  stop : Bool
  deriving DecidableEq, Repr

/-- A line's receiver: hunting for a sync byte, or inside a frame, with the bytes of it taken so far, the sync byte first
(R129, R162). -/
inductive Receiver where
  | hunting
  | inside (bytes : List LineByte)
  deriving DecidableEq, Repr

/-- The three lines on which frames arrive. -/
inductive Line where
  | control
  | chain (port : PortId)
  deriving DecidableEq, Repr

/-- What is on its way to the part behind the waiting commands: a byte on a line, or a command of the table (log 3). -/
inductive Arrival where
  | byte (line : Line) (b : LineByte)
  | command (c : Instr)
  deriving DecidableEq, Repr

/-- The control link; `restarting` while a RESTART has been taken and has not yet taken effect (R169). -/
structure ControlLink where
  straps : Straps
  receiver : Receiver
  buffer : List BufferedRequest
  busy : List Refused
  replies : List Reply
  notices : List Notice
  line : Option LineFrame
  badFrames : Nat
  noticesLost : Nat
  restarting : Bool
  deriving DecidableEq, Repr

/-! ### The settings store (11.3) -/

/-- A SAVE under way (R175): the copy to write, whether the page is still being erased, the offset of the byte being
programmed and the programs of it that failed so far. -/
structure SaveJob where
  copy : List Byte
  erasing : Bool
  offset : Nat
  failed : Nat
  deriving DecidableEq, Repr

/-- The store: the bytes programmed in the page from its first (the rest is erased), the store state, a SAVE under way, and
LOADED or DEFAULTS of the last full reset. -/
structure Store where
  page : List Byte
  state : StoreState
  job : Option SaveJob
  source : SettingsSource
  deriving DecidableEq, Repr

/-! ### The round engine (1) -/

/-- What the downlink segment of a slot carried, as far as its window needs it: nothing the pool or the survey generator
follows, a command (R94) or a pattern (R156). A command that has left the pool is forgotten here once its number is given anew. -/
inductive SentContent where
  | nothing
  | command (number : Half)
  | pattern (bytes : List Byte)
  deriving DecidableEq, Repr

/-- A plan position (R17) with its staleness (R19) and the progress of its slot. -/
structure Position where
  index : Index
  car : CarNumber
  cls : RateClass
  start : Nat
  d : Nat
  u : Nat
  stale : Bool
  started : Bool
  closed : Bool
  sent : SentContent
  deriving DecidableEq, Repr

/-- A plan (R17): the round it was built for, its positions, the offset of its first join slot, the join windows yet to
close, and whether its round is a grace round (R43). -/
structure Plan where
  round : RoundNumber
  positions : List Position
  joinStart : Nat
  joins : List (Fin 4)
  grace : Bool
  deriving DecidableEq, Repr

/-- The burst the radio transmitter last began: its bytes, class, and the offsets in AU at which it begins and ends. -/
structure RadioBurst where
  bytes : List Byte
  cls : RateClass
  begins : Nat
  ends : Nat
  deriving DecidableEq, Repr

/-- The round engine. `prev` and `older` are the plans of the two rounds begun before the last: a window of theirs may still be
receiving its burst (R23, R24; log 18). -/
structure Engine where
  state : EngineState
  round : RoundNumber
  resumePending : Bool
  inProgress : Bool
  plan : Plan
  prev : Plan
  older : Plan
  radio : Option RadioBurst
  deriving DecidableEq, Repr

/-! ### The car roster (2) and the command pool (5) -/

/-- A command of the pool (R87). -/
structure Command where
  number : Half
  kind : Byte
  payload : List Byte
  expiry : Nat
  age : Nat
  attempts : Nat
  seqUsed : Option Seq
  sent : Bool
  notify : Bool
  deriving DecidableEq, Repr

/-- The move target of a MOVING entry, from the peer's ACCEPT (R107). -/
structure MoveTarget where
  index : Byte
  channel : Byte
  cls : RateClass
  deriving DecidableEq, Repr

/-- A roster entry (R27), with its command list (R88). -/
structure Entry where
  state : EntryState
  car : CarNumber
  requested : Code
  joinSample : Nat
  confirmTimer : Nat
  granted : Code
  cls : Option RateClass
  wanted : Option RateClass
  rateHeld : Bool
  score : Nat
  upCount : Nat
  candidate : Option Byte
  nbrScore : Nat
  leadCount : Nat
  missed : Nat
  lastHeard : RoundNumber
  heard : Bool
  lastSeq : Option Seq
  nextSeq : Seq
  pace : Nat
  survey : Bool
  peer : Option Byte
  phaseTimer : Option Nat
  target : Option MoveTarget
  good : Nat
  failed : Nat
  corrected : Nat
  commands : List Command
  deriving DecidableEq, Repr

/-- A join answer's result (R41): a place with its allowance code and class, or a denial. -/
inductive AnswerResult where
  | place (index : Index) (code : Code) (cls : RateClass)
  | denial (reason : DenialReason)
  deriving DecidableEq, Repr

/-- A join answer (R41). -/
structure Answer where
  car : CarNumber
  result : AnswerResult
  deriving DecidableEq, Repr

/-- A bar (R47). -/
structure Bar where
  car : CarNumber
  rounds : Nat
  deriving DecidableEq, Repr

/-- A broadcast (R102). -/
structure Broadcast where
  id : Byte
  payload : List Byte
  repeats : Nat
  deriving DecidableEq, Repr

/-! ### Receive queues (4), chain ports (7), quiet (8), counters (9) -/

/-- A record (R79); `payload` is what was kept of it. -/
structure Record where
  car : CarNumber
  kind : Byte
  received : Nat
  stamp : Half
  offset : Nat
  margin : Byte
  corrections : Byte
  truncated : Bool
  relayed : Bool
  survey : Bool
  origin : Byte
  payload : List Byte
  deriving DecidableEq, Repr

/-- A receive queue (R80 to R82), oldest record first. -/
structure RxQueue where
  records : List Record
  lost : Nat
  episode : Bool
  deriving DecidableEq, Repr

/-- The six counters of a chain port (R137). -/
structure PortCounters where
  framesOut : Nat
  framesIn : Nat
  bad : Nat
  dropped : Nat
  hopLimit : Nat
  wrongDirection : Nat
  deriving DecidableEq, Repr

/-- A chain port (R128, R129, R131, R132): `line` is the frame on the line, none while fill is sent. -/
structure Port where
  isUp : Bool
  receiver : Receiver
  handover : List ChainFrame
  passAlong : List ChainFrame
  line : Option ChainFrame
  counters : PortCounters
  deriving DecidableEq, Repr

structure Ports where
  up : Port
  down : Port
  deriving DecidableEq, Repr

/-- The quiet controller (8), with the QUIET_ACK pin. -/
structure Quiet where
  lineClaim : Bool
  hostClaim : Bool
  state : QuietState
  timer : Nat
  ack : Bool
  deriving DecidableEq, Repr

/-- The fourteen node counters (R149). -/
structure NodeCounters where
  burstsGood : Nat
  checkFailures : Nat
  corrected : Nat
  lengthErrors : Nat
  wrongCar : Nat
  repeats : Nat
  joinBursts : Nat
  joinCollisions : Nat
  joinsBarred : Nat
  joinsDropped : Nat
  breaches : Nat
  notStarted : Nat
  stray : Nat
  misaddressed : Nat
  deriving DecidableEq, Repr

/-! ### The whole state -/

/-- The state of the part, the queue of commands that wait to be taken, and what arrives behind them. `freeIndex` is the
model's own: it counts the uses of the free value `Config.roundNumberPastTop`. -/
structure State where
  pending : List Instr
  arrivals : List Arrival
  inReset : Bool
  control : ControlLink
  image : Settings
  live : LiveSettings
  unapplied : Unapplied
  store : Store
  engine : Engine
  roster : Vector Entry 24
  order : List Index
  answers : List Answer
  bars : List Bar
  grace : Nat
  nextCommand : Half
  broadcasts : List Broadcast
  nextBroadcast : Byte
  queues : Vector RxQueue 4
  ports : Ports
  quiet : Quiet
  counters : NodeCounters
  freeIndex : Nat
  deriving DecidableEq, Repr

/-- Why the machine stops: the spec describes no machine fault, so there is no such reason. Every bad frame, bad request,
refused request, breach and store fault is an effect on State. -/
inductive Fault where
  deriving DecidableEq, Repr

/-- Why a command is not run. -/
inductive Refusal where
  /-- Raised by `exec`'s arm for a command without a meaning (safe: nothing is claimed of it). No arm raises it. -/
  | notModelled (mnemonic : String)
  deriving DecidableEq, Repr

/-! ### Reset values -/

/-- A FREE entry: the last column of R27. -/
def Entry.vacant : Entry where
  state := .free
  car := 0
  requested := 0
  joinSample := 0
  confirmTimer := 0
  granted := 0
  cls := none
  wanted := none
  rateHeld := false
  score := 0
  upCount := 0
  candidate := none
  nbrScore := 0
  leadCount := 0
  missed := 0
  lastHeard := 0
  heard := false
  lastSeq := none
  nextSeq := 0
  pace := 0
  survey := false
  peer := none
  phaseTimer := none
  target := none
  good := 0
  failed := 0
  corrected := 0
  commands := []

/-- A filter entry of the factory defaults: disabled (R171). Its other fields are not stated (DESIGN CHOICE, log 4). -/
def FilterEntry.default : FilterEntry where
  enable := false
  low := 0
  high := 0
  car := 0
  dest := .queue 0

/-- The factory defaults of R171, R77 and R156. -/
def Settings.default : Settings where
  node := { node := 0, channel := 0, upNeighbour := 0, downNeighbour := 0, portal := .self, autostart := false }
  round := { period := 10000, g1 := 50, g2 := 50, joinSlots := 2, pd := 6, mode := .free }
  roster := { admission := .auto, confirmTimeout := 16, missLimit := 8, graceRounds := 2 }
  link := { demote := 64, promote := 160, promoteRounds := 8, hysteresis := 24, leadRounds := 4 }
  handover := { enable := true, offerTimeout := 4, moveTimeout := 8, arrivalTimeout := 12 }
  downlink := { retryLimit := 4, pacing := 0 }
  queues :=
    { queue := #v[{ depth := 32, storage := 12, threshold := 4, notice := true },
                  { depth := 16, storage := 15, threshold := 0, notice := true },
                  { depth := 32, storage := 8, threshold := 8, notice := true },
                  { depth := 16, storage := 8, threshold := 8, notice := true }]
      survey := 3
      portal := 2 }
  filter := List.replicate 16 FilterEntry.default
  pattern :=
    { kind := .bands, bands := 8, bandSize := 8, block := 12
      bytes := [0x5A, 0xC3, 0x0F, 0xF0, 0x33, 0x99, 0x66, 0xE7, 0x18, 0x81, 0x24, 0xDB] }

/-- The live groups of an image, when all of it is in force. -/
def Settings.liveGroups (i : Settings) : LiveSettings where
  roster := i.roster
  link := i.link
  handover := i.handover
  downlink := i.downlink
  pattern := i.pattern

def Unapplied.none : Unapplied :=
  { roster := false, link := false, handover := false, downlink := false, pattern := false }

/-- The empty plan of R10, for round 0. -/
def Plan.empty : Plan := { round := 0, positions := [], joinStart := 0, joins := [], grace := false }

def RxQueue.empty : RxQueue := { records := [], lost := 0, episode := false }

def PortCounters.zero : PortCounters :=
  { framesOut := 0, framesIn := 0, bad := 0, dropped := 0, hopLimit := 0, wrongDirection := 0 }

/-- A chain port after a reset (R138): DOWN, hunting, its queues empty, fill on the line, its counters 0. -/
def Port.afterReset : Port :=
  { isUp := false, receiver := .hunting, handover := [], passAlong := [], line := none, counters := PortCounters.zero }

def NodeCounters.zero : NodeCounters :=
  { burstsGood := 0, checkFailures := 0, corrected := 0, lengthErrors := 0, wrongCar := 0, repeats := 0, joinBursts := 0,
    joinCollisions := 0, joinsBarred := 0, joinsDropped := 0, breaches := 0, notStarted := 0, stray := 0, misaddressed := 0 }

/-- The part after a power-on reset with an erased page (log 5), both straps low and QUIET_REQ deasserted (log 2): every
block at its full-reset values, the factory defaults in force, and READY (POWER, DEFAULTS), the first notice queued, already
on the idle control link (R177, R167). Every receiver hunts (R138, R170). No command waits and nothing arrives. -/
def State.reset : State where
  pending := []
  arrivals := []
  inReset := false
  control :=
    { straps := { first := false, second := false }, receiver := .hunting, buffer := [], busy := [], replies := [], notices := []
      line := some (.notice (.ready .power .defaults)), badFrames := 0, noticesLost := 0, restarting := false }
  image := Settings.default
  live := Settings.default.liveGroups
  unapplied := Unapplied.none
  store := { page := [], state := .invalid, job := none, source := .defaults }
  engine :=
    { state := .stopped, round := 0, resumePending := false, inProgress := false, plan := Plan.empty, prev := Plan.empty
      older := Plan.empty, radio := none }
  roster := Vector.replicate 24 Entry.vacant
  order := []
  answers := []
  bars := []
  grace := 0
  nextCommand := 1
  broadcasts := []
  nextBroadcast := 1
  queues := Vector.replicate 4 RxQueue.empty
  ports := { up := Port.afterReset, down := Port.afterReset }
  quiet := { lineClaim := false, hostClaim := false, state := .opened, timer := 0, ack := false }
  counters := NodeCounters.zero
  freeIndex := 0

end Sys2Proof.Machine
end

