-- ==== Sys2Proof/Machine/Bytes.lean ====
section
/-!
DEFINITION. Bytes on the lines: byte order, the check word, length codes, and the codes of 12.5.
-/
namespace Sys2Proof.Machine

/-! ### Byte order and check word (R1) -/

/-- The byte that carries a small number or code. -/
def byteOf (n : Nat) : Byte := BitVec.ofNat 8 n

/-- A flag as a byte: 0 clear, 1 set (R180). -/
def flagByte (b : Bool) : Byte := if b then 1 else 0

/-- A number as `k` bytes, least significant first (R1). -/
def leBytes : Nat → Nat → List Byte
  | 0, _ => []
  | k + 1, n => byteOf n :: leBytes k (n / 256)

/-- The number that bytes, least significant first, stand for (R1). -/
def leValue : List Byte → Nat
  | [] => 0
  | b :: bs => b.toNat + 256 * leValue bs

/-- A car number as 3 bytes (R180). -/
def carBytes (c : CarNumber) : List Byte := leBytes 3 c.toNat
/-- A 32-bit round number as 4 bytes (R180). -/
def roundBytes (r : RoundNumber) : List Byte := leBytes 4 r.toNat
/-- A 2-byte field (R180). -/
def halfBytes (n : Nat) : List Byte := leBytes 2 n

/-- One shift of the check register: the generator polynomial is x^16 + x^12 + x^5 + 1 (R1). -/
def crcShift (r : Half) : Half := if r.msb then (r <<< 1) ^^^ 0x1021#16 else r <<< 1

/-- The check register after one byte, most significant bit first (R1). -/
def crcByte (r : Half) (b : Byte) : Half :=
  crcShift (crcShift (crcShift (crcShift (crcShift (crcShift (crcShift (crcShift (r ^^^ (b.zeroExtend 16 <<< 8)))))))))

/-- The check word of bytes: the register starts at 0xFFFF and is not inverted at the end (R1). -/
def checkWord (bs : List Byte) : Half := bs.foldl crcByte 0xFFFF#16

/-- Bytes followed by their check word, low byte first (R1). -/
def withCheck (bs : List Byte) : List Byte := bs ++ halfBytes (checkWord bs).toNat

/-- Whether bytes end in the check word of those before it (R1). -/
def checkMatches (bs : List Byte) : Bool := 2 ≤ bs.length && withCheck (bs.take (bs.length - 2)) == bs

/-- The byte count of a length code (R1). -/
def codeBytes (c : Code) : Nat :=
  [0, 2, 4, 6, 8, 10, 12, 14, 16, 20, 24, 28, 32, 40, 48, 64].getD c.toNat 0

/-- The low 16 bits of a round number: the round stamp (R22). -/
def roundStamp (r : RoundNumber) : Half := r.truncate 16

/-! ### Codes (12.5) -/

def RateClass.code : RateClass → Nat
  | .a => 0 | .b => 1 | .c => 2

/-- The class of a code; none above 2 (R179). -/
def RateClass.ofCode : Nat → Option RateClass
  | 0 => some .a | 1 => some .b | 2 => some .c | _ => none

def EntryState.code : EntryState → Nat
  | .free => 0 | .pending => 1 | .joining => 2 | .active => 3 | .offering => 4 | .moving => 5 | .arriving => 6

def EngineState.code : EngineState → Nat
  | .stopped => 0 | .running => 1 | .stopping => 2 | .paused => 3 | .stepping => 4

def QuietState.code : QuietState → Nat
  | .opened => 0 | .draining => 1 | .silent => 2

def StoreState.code : StoreState → Nat
  | .valid => 0 | .invalid => 1 | .saving => 2

def DenialReason.code : DenialReason → Nat
  | .denied => 1 | .noRoom => 2 | .noAirtime => 3

def RefuseReason.code : RefuseReason → Nat
  | .full => 1 | .airtime => 2 | .busy => 3 | .present => 4 | .stopped => 5 | .noAnswer => 6

/-- The reason of a REFUSE frame; none outside 1 to 5 (R179). -/
def RefuseReason.ofCode : Nat → Option RefuseReason
  | 1 => some .full | 2 => some .airtime | 3 => some .busy | 4 => some .present | 5 => some .stopped | _ => none

def DepartReason.code : DepartReason → Nat
  | .silent => 1 | .neverHeard => 2 | .confirmTimeout => 3

def UndeliveredReason.code : UndeliveredReason → Nat
  | .noAck => 1 | .departed => 2 | .evicted => 3 | .moved => 4 | .tooLong => 5

def ReadyCause.code : ReadyCause → Nat
  | .power => 0 | .line => 1 | .restart => 2

def SettingsSource.code : SettingsSource → Nat
  | .loaded => 0 | .defaults => 1

def PortalDirection.code : PortalDirection → Nat
  | .up => 0 | .down => 1 | .self => 2

def PortalDirection.ofCode : Nat → PortalDirection
  | 0 => .up | 1 => .down | _ => .self

def RoundMode.code : RoundMode → Nat
  | .free => 0 | .stepped => 1

def RoundMode.ofCode : Nat → RoundMode
  | 0 => .free | _ => .stepped

def Admission.code : Admission → Nat
  | .auto => 0 | .confirm => 1

def Admission.ofCode : Nat → Admission
  | 0 => .auto | _ => .confirm

def PatternKind.code : PatternKind → Nat
  | .bands => 0 | .fixed => 1

def PatternKind.ofCode : Nat → PatternKind
  | 0 => .bands | _ => .fixed

def Destination.code : Destination → Nat
  | .queue q => q.val | .passAlong => 4 | .discard => 5

def Destination.ofCode : Nat → Destination
  | 0 => .queue 0 | 1 => .queue 1 | 2 => .queue 2 | 3 => .queue 3 | 4 => .passAlong | _ => .discard

/-- The status codes of R165. -/
def Status.code : Status → Nat
  | .ok => 0 | .busy => 1 | .badRequest => 2 | .badValue => 3 | .badState => 4 | .unconfigured => 5 | .unknownCar => 6
  | .moving => 7 | .tooLong => 8 | .poolFull => 9 | .carFull => 10 | .queueFull => 11 | .noAirtime => 12 | .noRoom => 13
  | .tooLate => 14 | .notFound => 15 | .sentOnce => 16 | .badOrder => 17 | .empty => 18

end Sys2Proof.Machine
end

