-- ==== Sys2Proof/Machine/Flags.lean ====
section
/-!
DEFINITION. Counters and flags: saturating counts (R1), the node, port and per-car counters (R137, R149, R150), and the
predicates on an entry's state that the rules share (R28).
-/
namespace Sys2Proof.Machine

/-- One more on a counter that stops at `top` and stays there (R1). -/
def saturate (top n : Nat) : Nat := min (n + 1) top

/-- One more on a 16-bit link counter (R149). -/
def count16 (n : Nat) : Nat := saturate 65535 n

/-! ### Entry states (R28) -/

/-- The slotted states hold a place in the order table (R28). -/
def EntryState.slotted : EntryState → Bool
  | .joining | .active | .offering | .moving | .arriving => true
  | .free | .pending => false

/-- The states in which an entry has a peer and a phase timer (R107). -/
def EntryState.inHandover : EntryState → Bool
  | .offering | .moving | .arriving => true
  | _ => false

/-- The states whose missed windows are charged (R44). -/
def EntryState.charged : EntryState → Bool
  | .joining | .active | .offering => true
  | _ => false

/-- The class of an entry; a slotted entry always holds one (R27). -/
def Entry.rate (e : Entry) : RateClass := e.cls.getD .a

/-- The wanted class of an entry; a slotted entry always holds one (R27). -/
def Entry.wantedRate (e : Entry) : RateClass := e.wanted.getD e.rate

/-! ### Rate classes (R1) -/

def RateClass.faster : RateClass → RateClass
  | .c => .b | .b => .a | .a => .a

def RateClass.slower : RateClass → RateClass
  | .a => .b | .b => .c | .c => .c

/-- AU per byte (R3): 1, 2 or 4. -/
def RateClass.auPerByte : RateClass → Nat
  | .a => 1 | .b => 2 | .c => 4

/-- Whether the first class is slower than the second. -/
def RateClass.slowerThan (x y : RateClass) : Bool := y.auPerByte < x.auPerByte

/-! ### Claims (R139) -/

/-- Whether any claim is held. -/
def Quiet.claimed (q : Quiet) : Bool := q.lineClaim || q.hostClaim

end Sys2Proof.Machine
end

