-- ==== Sys2Proof/Machine/Settings.lean ====
section
/-!
DEFINITION. The settings groups as fields (R171): their widths on the wire (R180), their ranges, the conditions that span
fields, the record store budget (R77), and the page's coding of the image (R174).
-/
namespace Sys2Proof.Machine

/-- The nine groups, in the order of R171. -/
inductive Group where
  | node | round | roster | link | handover | downlink | queues | filter | pattern
  deriving DecidableEq, Repr

/-- The group of a code (12.5). -/
def Group.ofCode : Nat → Option Group
  | 0 => some .node | 1 => some .round | 2 => some .roster | 3 => some .link | 4 => some .handover | 5 => some .downlink
  | 6 => some .queues | 7 => some .filter | 8 => some .pattern | _ => none

def Group.all : List Group := [.node, .round, .roster, .link, .handover, .downlink, .queues, .filter, .pattern]

/-- A field of a group: its width in bytes (R180) and whether a value lies in its range (R171). -/
structure FieldSpec where
  width : Nat
  inRange : Nat → Bool

/-- A one-byte field with the range `lo` to `hi`. -/
def byteField (lo hi : Nat) : FieldSpec := ⟨1, fun v => lo ≤ v && v ≤ hi⟩

/-- A two-byte field with the range `lo` to `hi`. -/
def halfField (lo hi : Nat) : FieldSpec := ⟨2, fun v => lo ≤ v && v ≤ hi⟩

/-- The four fields of one receive queue: depth 0 or 4 to 64 in steps of 4, storage code, threshold, notice enable (R77). -/
def queueFields : List FieldSpec :=
  [⟨1, fun v => v % 4 == 0 && v ≤ 64⟩, byteField 4 15, byteField 0 8, byteField 0 1]

/-- The five fields of one filter entry (R74, R76). -/
def filterFields : List FieldSpec :=
  [byteField 0 1, byteField 0 63, byteField 0 63, ⟨3, fun _ => true⟩, byteField 0 5]

/-- The fields of each group, in the order of R171. -/
def Group.fields : Group → List FieldSpec
  | .node => [byteField 0 254, byteField 0 15, byteField 0 254, byteField 0 254, byteField 0 2, byteField 0 1]
  | .round => [halfField 1000 40000, halfField 0 500, halfField 0 500, byteField 1 4, byteField 2 15, byteField 0 1]
  | .roster => [byteField 0 1, byteField 1 64, byteField 2 32, byteField 0 4]
  | .link => [byteField 0 254, byteField 1 255, byteField 1 32, byteField 0 64, byteField 1 16]
  | .handover => [byteField 0 1, byteField 2 32, byteField 2 64, byteField 2 64]
  | .downlink => [byteField 1 15, byteField 0 255]
  | .queues => (List.replicate 4 queueFields).flatten ++ [byteField 0 3, byteField 0 3]
  | .filter => (List.replicate 16 filterFields).flatten
  | .pattern =>
    [byteField 0 1, ⟨1, fun v => v == 1 || v == 2 || v == 4 || v == 8⟩, byteField 1 64, byteField 1 12]
      ++ List.replicate 12 (byteField 0 255)

/-- The bytes the fields of a group take. -/
def Group.size (g : Group) : Nat := (g.fields.map FieldSpec.width).sum

/-- Bytes cut into the values of fields, each low byte first (R180). -/
def splitFields : List FieldSpec → List Byte → List Nat
  | [], _ => []
  | f :: fs, bs => leValue (bs.take f.width) :: splitFields fs (bs.drop f.width)

/-- Values of fields written one after another (R180). -/
def joinFields : List FieldSpec → List Nat → List Byte
  | f :: fs, v :: vs => leBytes f.width v ++ joinFields fs vs
  | _, _ => []

/-- The number of the first field outside its range, tested from field 0 upward (R172). -/
def firstBadField (fs : List FieldSpec) (vs : List Nat) : Option Nat :=
  ((fs.zip vs).findIdx? fun p => !p.1.inRange p.2)

/-! ### Settings and their values -/

/-- The values of a group's fields in an image, in the order of R171. -/
def Settings.values (i : Settings) : Group → List Nat
  | .node =>
    [i.node.node.toNat, i.node.channel.toNat, i.node.upNeighbour.toNat, i.node.downNeighbour.toNat, i.node.portal.code,
      i.node.autostart.toNat]
  | .round => [i.round.period, i.round.g1, i.round.g2, i.round.joinSlots, i.round.pd.toNat, i.round.mode.code]
  | .roster => [i.roster.admission.code, i.roster.confirmTimeout, i.roster.missLimit, i.roster.graceRounds]
  | .link => [i.link.demote, i.link.promote, i.link.promoteRounds, i.link.hysteresis, i.link.leadRounds]
  | .handover => [i.handover.enable.toNat, i.handover.offerTimeout, i.handover.moveTimeout, i.handover.arrivalTimeout]
  | .downlink => [i.downlink.retryLimit, i.downlink.pacing]
  | .queues =>
    (i.queues.queue.toList.flatMap fun q => [q.depth, q.storage.toNat, q.threshold, q.notice.toNat])
      ++ [i.queues.survey.val, i.queues.portal.val]
  | .filter => i.filter.flatMap fun e => [e.enable.toNat, e.low, e.high, e.car.toNat, e.dest.code]
  | .pattern =>
    [i.pattern.kind.code, i.pattern.bands, i.pattern.bandSize, i.pattern.block] ++ i.pattern.bytes.map BitVec.toNat

/-- The bytes of a group's fields (R173, R180). -/
def Settings.groupBytes (i : Settings) (g : Group) : List Byte := joinFields g.fields (i.values g)

/-- The number of a queue from a field in the range 0 to 3. -/
def queueOf (n : Nat) : Fin 4 := Fin.ofNat 4 n

/-- One queue's settings from its four field values (R77). -/
def QueueSetting.ofValues : List Nat → QueueSetting
  | [d, s, t, n] => { depth := d, storage := BitVec.ofNat 4 s, threshold := t, notice := n == 1 }
  | _ => { depth := 0, storage := 4, threshold := 0, notice := false }

/-- The filter table from its field values, five for each entry (R76). -/
def filterOfValues : List Nat → List FilterEntry
  | e :: l :: h :: c :: d :: rest =>
    { enable := e == 1, low := l, high := h, car := BitVec.ofNat 24 c, dest := Destination.ofCode d } :: filterOfValues rest
  | _ => []

/-- An image with one group replaced by field values in the order of R171. -/
def Settings.withValues (i : Settings) : Group → List Nat → Settings
  | .node, [n, c, u, d, p, a] =>
    { i with node := { node := byteOf n, channel := byteOf c, upNeighbour := byteOf u, downNeighbour := byteOf d,
                       portal := PortalDirection.ofCode p, autostart := a == 1 } }
  | .round, [p, g1, g2, j, pd, m] =>
    { i with round := { period := p, g1 := g1, g2 := g2, joinSlots := j, pd := BitVec.ofNat 4 pd, mode := RoundMode.ofCode m } }
  | .roster, [a, c, m, g] =>
    { i with roster := { admission := Admission.ofCode a, confirmTimeout := c, missLimit := m, graceRounds := g } }
  | .link, [d, p, r, h, l] =>
    { i with link := { demote := d, promote := p, promoteRounds := r, hysteresis := h, leadRounds := l } }
  | .handover, [e, o, m, a] =>
    { i with handover := { enable := e == 1, offerTimeout := o, moveTimeout := m, arrivalTimeout := a } }
  | .downlink, [r, p] => { i with downlink := { retryLimit := r, pacing := p } }
  | .queues, vs =>
    { i with queues :=
        { queue := #v[QueueSetting.ofValues (vs.take 4), QueueSetting.ofValues ((vs.drop 4).take 4),
                      QueueSetting.ofValues ((vs.drop 8).take 4), QueueSetting.ofValues ((vs.drop 12).take 4)]
          survey := queueOf (vs.getD 16 0)
          portal := queueOf (vs.getD 17 0) } }
  | .filter, vs => { i with filter := filterOfValues vs }
  | .pattern, k :: n :: b :: m :: bytes =>
    { i with pattern := { kind := PatternKind.ofCode k, bands := n, bandSize := b, block := m, bytes := bytes.map byteOf } }
  | _, _ => i

/-! ### Conditions that span fields (R171) -/

/-- The field R171 names for the first filter entry whose kind low is above its kind high (R76). -/
def filterCross : Nat → List FilterEntry → Option Nat
  | _, [] => none
  | k, e :: es => if e.high < e.low then some (5 * k + 2) else filterCross (k + 1) es

/-- The field named by the first condition spanning several fields that a group of an image fails (R171). A NODE group that fails
both conditions names the field of the table's first line (DESIGN CHOICE, log 33). -/
def Settings.crossFailure (i : Settings) : Group → Option Nat
  | .node =>
    let n := i.node
    if n.upNeighbour = n.downNeighbour ∧ n.upNeighbour ≠ 0 then some 3
    else if n.node ≠ 0 ∧ n.upNeighbour = n.node then some 2
    else if n.node ≠ 0 ∧ n.downNeighbour = n.node then some 3
    else none
  | .link => if i.link.demote < i.link.promote then none else some 1
  | .filter => filterCross 0 i.filter
  | _ => none

/-- The bytes a queue takes of the record store (R77). -/
def QueueSetting.cost (q : QueueSetting) : Nat := q.depth * (16 + codeBytes q.storage)

/-- The record store budget of a QUEUES group (R77). -/
def QueuesGroup.budget (q : QueuesGroup) : Nat := (q.queue.toList.map QueueSetting.cost).sum

/-- The record store (R77). -/
def recordStoreBytes : Nat := 8192

/-! ### The page (R174) -/

/-- The image as the page holds it: the nine groups in the order of R171, each as in a SET body (DESIGN CHOICE, log 6). -/
def Settings.imageBytes (i : Settings) : List Byte := Group.all.flatMap i.groupBytes

/-- The bytes of a valid page: the format number 1 in 2 bytes, the image, the check word (R174). That the format number and the
check word stand low byte first is not said of the page (DESIGN CHOICE, log 6). -/
def Settings.pageBytes (i : Settings) : List Byte := withCheck (halfBytes 1 ++ i.imageBytes)

/-- The bytes the nine groups take. -/
def imageSize : Nat := (Group.all.map Group.size).sum

/-- The values of all groups read from image bytes, in the order of R171. -/
def splitGroups : List Group → List Byte → List (Group × List Nat)
  | [], _ => []
  | g :: gs, bs => (g, splitFields g.fields (bs.take g.size)) :: splitGroups gs (bs.drop g.size)

end Sys2Proof.Machine
end

