-- ==== Sys2Proof/Machine/Operands.lean ====
section
/-!
DEFINITION. Reading what arrives: uplink and join bursts (12.1), the ranges of handover frames (R105, R106, R179), and the
bodies of requests (R180), each as the rules read them. It also holds the writing side of request bodies, so that a request
row and the frame that carries it are the same thing.
-/
namespace Sys2Proof.Machine

/-! ### Uplink and join bursts (12.1) -/

/-- The header of an uplink burst and its payload, the bytes between the header and the check word (12.1). -/
structure Burst where
  car : CarNumber
  seq : Seq
  dlAck : Seq
  kind : Nat
  dlAckValid : Bool
  nbrValid : Bool
  length : Nat
  nbrNode : Byte
  nbrMargin : Nat
  payload : List Byte
  deriving DecidableEq, Repr

/-- The fields of a burst; none for fewer than 10 bytes, which cannot hold a header and a check (R66). -/
def Burst.read (bytes : List Byte) : Option Burst :=
  match bytes with
  | c0 :: c1 :: c2 :: q :: k :: l :: n :: m :: rest =>
    if rest.length < 2 then none
    else some
      { car := BitVec.ofNat 24 (leValue [c0, c1, c2])
        seq := q.truncate 4
        dlAck := (q >>> 4).truncate 4
        kind := k.toNat % 64
        dlAckValid := k.getLsbD 6
        nbrValid := k.getLsbD 7
        length := l.toNat
        nbrNode := n
        nbrMargin := m.toNat
        payload := rest.take (rest.length - 2) }
  | _ => none

/-- The received payload count of a burst (R66). -/
def Burst.received (b : Burst) : Nat := b.payload.length

/-- The kinds of an uplink burst that are not car data (12.1). -/
def kindJoin : Nat := 62
def kindEcho : Nat := 63

/-- The body of a join burst (12.1). -/
structure JoinBody where
  car : CarNumber
  requested : Code
  margin : Nat
  carType : Byte
  build : BitVec 24
  deriving DecidableEq, Repr

/-- A usable join: kind JOIN, a car number of 1 or more, and the six bytes of the join body (R32; DEDUCED that a shorter one
is not usable, log 14). Bits 4 to 7 of the requested code are ignored (R179). -/
def JoinBody.read (bytes : List Byte) : Option JoinBody :=
  match Burst.read bytes with
  | none => none
  | some b =>
    if b.kind = kindJoin ∧ b.car ≠ 0 then
      match b.payload with
      | r :: m :: t :: v0 :: v1 :: v2 :: _ =>
        some { car := b.car, requested := r.truncate 4, margin := m.toNat, carType := t
               build := BitVec.ofNat 24 (leValue [v0, v1, v2]) }
      | _ => none
    else none

/-- A margin limited to 0 to 63 (R52). -/
def limitMargin (m : Nat) : Nat := min m 63
/-- A correction count limited to 0 to 15 (R52). -/
def limitCorrections (c : Nat) : Nat := min c 15

/-- The join sample: 4 times the beacon margin, capped at 252 (R32). -/
def joinSampleOf (margin : Nat) : Nat := min (4 * margin) 252

/-! ### Handover frames (R105, R106, R179) -/

/-- An OFFER whose fields all lie in their ranges, read (R105, R179). -/
structure Offer where
  car : CarNumber
  cls : RateClass
  code : Code
  survey : Bool
  score : Nat
  lastSeq : Option Seq
  nextSeq : Seq
  deriving DecidableEq, Repr

/-- The offer a body carries; none when a field lies outside its range (step 2 of R106). -/
def Offer.read (b : OfferBody) : Option Offer :=
  match RateClass.ofCode b.cls.toNat with
  | none => none
  | some cls =>
    if b.car ≠ 0 ∧ 1 ≤ b.allowance.toNat ∧ b.allowance.toNat ≤ 15 ∧ (b.lastSeq.toNat ≤ 15 ∨ b.lastSeq = 0xFF) ∧ b.nextSeq.toNat ≤ 15 then
      some { car := b.car, cls := cls, code := b.allowance.truncate 4, survey := b.survey.getLsbD 0, score := b.score.toNat
             lastSeq := if b.lastSeq = 0xFF then none else some (b.lastSeq.truncate 4), nextSeq := b.nextSeq.truncate 4 }
    else none

/-- The move target an ACCEPT carries; none when a field lies outside its range (step 2 of R106). -/
def readAccept (b : AcceptBody) : Option MoveTarget :=
  match RateClass.ofCode b.cls.toNat with
  | none => none
  | some cls =>
    if b.car ≠ 0 ∧ b.index.toNat ≤ 23 ∧ b.channel.toNat ≤ 15 then
      some { index := b.index, channel := b.channel, cls := cls }
    else none

/-! ### Requests (10.5, R180) -/

/-- The body of a list of varying length: its 1-byte count, then its bytes (R180). -/
def counted (bs : List Byte) : List Byte := byteOf bs.length :: bs

/-- The request that a request row of the table stands for (10.5, R180); none for the rows that are no request. -/
def requestOf : Instr → Option Request
  | .status t => some ⟨0x01, t, []⟩
  | .restart t => some ⟨0x02, t, []⟩
  | .set t g fs => some ⟨0x03, t, g :: fs⟩
  | .get t g => some ⟨0x04, t, [g]⟩
  | .save t => some ⟨0x05, t, []⟩
  | .start t => some ⟨0x06, t, []⟩
  | .stop t => some ⟨0x07, t, []⟩
  | .stepRound t => some ⟨0x08, t, []⟩
  | .plan t => some ⟨0x09, t, []⟩
  | .roster t p f => some ⟨0x0A, t, [p, f]⟩
  | .admitCar t c => some ⟨0x0B, t, carBytes c⟩
  | .deny t c b => some ⟨0x0C, t, carBytes c ++ halfBytes b.toNat⟩
  | .evict t c b => some ⟨0x0D, t, carBytes c ++ halfBytes b.toNat⟩
  | .setOrder t l => some ⟨0x0E, t, counted l⟩
  | .survey t c v => some ⟨0x0F, t, carBytes c ++ [v]⟩
  | .send t c k p e n => some ⟨0x10, t, carBytes c ++ [k] ++ counted p ++ halfBytes e.toNat ++ [n]⟩
  | .withdraw t n => some ⟨0x11, t, halfBytes n.toNat⟩
  | .broadcast t p r u => some ⟨0x12, t, counted p ++ [r, u]⟩
  | .take t q n => some ⟨0x13, t, [q, n]⟩
  | .peek t q => some ⟨0x14, t, [q]⟩
  | .flush t q => some ⟨0x15, t, [q]⟩
  | .quiet t v _ => some ⟨0x16, t, [v]⟩
  | .counts t s i => some ⟨0x17, t, [s, i]⟩
  | .clearCounts t s i => some ⟨0x18, t, [s, i]⟩
  | _ => none

/-- The request row that a body of a request kind spells, or none when its size is not what its fields and counts give
(R163, R180). A SET of a group code outside the nine has any size (R172). The moment is that of a QUIET's claim. -/
def readRequest (m : Moment) (kind tag : Byte) (body : List Byte) : Option Instr :=
  match kind.toNat, body with
  | 0x01, [] => some (.status tag)
  | 0x02, [] => some (.restart tag)
  | 0x03, g :: fs =>
    match Group.ofCode g.toNat with
    | none => some (.set tag g fs)
    | some grp => if fs.length = grp.size then some (.set tag g fs) else none
  | 0x04, [g] => some (.get tag g)
  | 0x05, [] => some (.save tag)
  | 0x06, [] => some (.start tag)
  | 0x07, [] => some (.stop tag)
  | 0x08, [] => some (.stepRound tag)
  | 0x09, [] => some (.plan tag)
  | 0x0A, [p, f] => some (.roster tag p f)
  | 0x0B, [c0, c1, c2] => some (.admitCar tag (BitVec.ofNat 24 (leValue [c0, c1, c2])))
  | 0x0C, [c0, c1, c2, b0, b1] =>
    some (.deny tag (BitVec.ofNat 24 (leValue [c0, c1, c2])) (BitVec.ofNat 16 (leValue [b0, b1])))
  | 0x0D, [c0, c1, c2, b0, b1] =>
    some (.evict tag (BitVec.ofNat 24 (leValue [c0, c1, c2])) (BitVec.ofNat 16 (leValue [b0, b1])))
  | 0x0E, n :: l => if l.length = n.toNat then some (.setOrder tag l) else none
  | 0x0F, [c0, c1, c2, v] => some (.survey tag (BitVec.ofNat 24 (leValue [c0, c1, c2])) v)
  | 0x10, c0 :: c1 :: c2 :: k :: n :: rest =>
    match rest.drop n.toNat with
    | [e0, e1, y] =>
      some (.send tag (BitVec.ofNat 24 (leValue [c0, c1, c2])) k (rest.take n.toNat) (BitVec.ofNat 16 (leValue [e0, e1])) y)
    | _ => none
  | 0x11, [n0, n1] => some (.withdraw tag (BitVec.ofNat 16 (leValue [n0, n1])))
  | 0x12, n :: rest =>
    match rest.drop n.toNat with
    | [r, u] => some (.broadcast tag (rest.take n.toNat) r u)
    | _ => none
  | 0x13, [q, n] => some (.take tag q n)
  | 0x14, [q] => some (.peek tag q)
  | 0x15, [q] => some (.flush tag q)
  | 0x16, [v] => some (.quiet tag v m)
  | 0x17, [s, i] => some (.counts tag s i)
  | 0x18, [s, i] => some (.clearCounts tag s i)
  | _, _ => none

/-- Whether a request is answered BAD_REQUEST (R163): its tag is 0, its kind is none of the 24, or its body has a wrong
size. -/
def badRequestFrame (r : Request) : Bool := r.tag == 0 || (readRequest ⟨0, [], []⟩ r.kind r.tag r.body).isNone

/-- The largest body of a control-link frame: L counts kind through body and is at most 300 (R162). -/
def maxBody : Nat := 298

/-- The kind of the reply to a request of a kind: plus 0x80, or 0x80 for a kind that is no request kind (R163). -/
def replyKind (k : Byte) : Byte := if 1 ≤ k.toNat ∧ k.toNat ≤ 0x18 then k + 0x80 else 0x80

end Sys2Proof.Machine
end

