-- ==== Sys2Proof/Machine/Frames.lean ====
section
/-!
DEFINITION. Writing what is sent: the beacon and the downlink segments (12.1), chain frames (12.2), control-link frames and
the bodies of notices and records (12.3, 12.4, R180); and, for the two wired lines, the reading of a whole received frame as
the command of the table that it is (R129, R162, R163).
-/
namespace Sys2Proof.Machine

/-- A node number or none as a byte, 0 for none (R180). -/
def nodeByte (n : Option Byte) : Byte := n.getD 0

/-- A sequence or none as a byte, 0xFF for none (R180). -/
def seqByte (q : Option Seq) : Byte := match q with | none => 0xFF | some v => v.zeroExtend 8

/-! ### Radio (12.1, R179) -/

/-- A plan entry of the beacon: index in bits 0 to 4, class in bits 5 and 6, then the start offset (12.1). -/
def Position.entryBytes (p : Position) : List Byte := byteOf (p.index.val + 32 * p.cls.code) :: halfBytes p.start

/-- The result byte of a join answer, and its allowance and class byte, 0 for a denial (12.1, R41). -/
def AnswerResult.bytes : AnswerResult → List Byte
  | .place i c r => [byteOf i.val, byteOf (c.toNat + 16 * r.code)]
  | .denial d => [byteOf (0x80 + d.code), 0]

/-- A join answer, 5 bytes (12.1). -/
def Answer.bytes (a : Answer) : List Byte := carBytes a.car ++ a.result.bytes

/-- Bytes filled up to a size with a fill byte. -/
def padTo (n : Nat) (fill : Byte) (bs : List Byte) : List Byte := bs ++ List.replicate (n - bs.length) fill

/-- The beacon, 114 bytes (R20, 12.1): node, flags (bit 0 RESUME, bit 1 STEPPED), round number, plan, answers, broadcast,
check word. Bits 2 to 7 of the flags byte, which no rule names, are sent as 0 (DESIGN CHOICE, log 36). -/
def beaconBytes (node : Byte) (resume stepped : Bool) (round : RoundNumber) (plan : List Position) (answers : List Answer)
    (bc : Option Broadcast) : List Byte :=
  withCheck (
    [node, byteOf (resume.toNat + 2 * stepped.toNat)] ++ halfBytes (roundStamp round).toNat
      ++ [byteOf plan.length] ++ padTo 72 0xFF (plan.flatMap Position.entryBytes)
      ++ [byteOf answers.length] ++ padTo 20 0xFF (answers.flatMap Answer.bytes)
      ++ (match bc with
          | none => padTo 14 0 []
          | some b => [b.id, byteOf b.payload.length] ++ padTo 12 0 b.payload))

/-- A downlink segment (R92, 12.1): header, payload, check word. The downlink sequence of a segment that is no command is 0,
and so is the uplink ack when ACK_VALID is clear (R179). -/
def segmentBytes (car : CarNumber) (kind : Nat) (payload : List Byte) (seq : Seq) (rep : Bool) (ack : Option Seq) : List Byte :=
  withCheck (
    carBytes car ++ [byteOf (kind % 64 + 64 * ack.isSome.toNat + 128 * rep.toNat), byteOf payload.length,
      byteOf (seq.toNat + 16 * (ack.getD 0).toNat)] ++ payload)

/-! ### Chain (12.2) -/

/-- The kind byte and body of a chain frame (12.2). -/
def chainBodyBytes : ChainBody → Byte × List Byte
  | .offer b => (0x01, carBytes b.car ++ [b.cls, b.allowance, b.survey, b.score, b.lastSeq, b.nextSeq])
  | .accept b => (0x02, carBytes b.car ++ [b.index, b.channel, b.cls])
  | .refuse c r => (0x03, carBytes c ++ [r])
  | .cancel c => (0x04, carBytes c)
  | .done c => (0x05, carBytes c)
  | .pass b =>
    (0x10, [b.origin] ++ carBytes b.car ++ [b.kind, byteOf b.payload.length] ++ halfBytes b.stamp.toNat
      ++ [b.margin, b.corrections] ++ b.payload)

/-- A chain frame's bytes from the sync byte to the check word (12.2): the check covers every byte after the sync byte. -/
def chainFrameBytes (f : ChainFrame) : List Byte :=
  0xA7 :: withCheck (byteOf (4 + (chainBodyBytes f.body).2.length) :: (chainBodyBytes f.body).1 :: f.src :: f.dst :: f.hop :: (chainBodyBytes f.body).2)

/-- The body of a chain frame of a kind, read (tests 3 and 4 of R129). -/
def readChainBody (kind : Byte) (body : List Byte) : Option ChainBody :=
  match kind.toNat, body with
  | 0x01, [c0, c1, c2, k, a, s, n, l, d] =>
    some (.offer { car := BitVec.ofNat 24 (leValue [c0, c1, c2]), cls := k, allowance := a, survey := s, score := n
                   lastSeq := l, nextSeq := d })
  | 0x02, [c0, c1, c2, i, h, k] =>
    some (.accept { car := BitVec.ofNat 24 (leValue [c0, c1, c2]), index := i, channel := h, cls := k })
  | 0x03, [c0, c1, c2, r] => some (.refuse (BitVec.ofNat 24 (leValue [c0, c1, c2])) r)
  | 0x04, [c0, c1, c2] => some (.cancel (BitVec.ofNat 24 (leValue [c0, c1, c2])))
  | 0x05, [c0, c1, c2] => some (.done (BitVec.ofNat 24 (leValue [c0, c1, c2])))
  | 0x10, o :: c0 :: c1 :: c2 :: k :: n :: s0 :: s1 :: m :: x :: payload =>
    if 1 ≤ n.toNat ∧ n.toNat ≤ 64 ∧ payload.length = n.toNat then
      some (.pass { origin := o, car := BitVec.ofNat 24 (leValue [c0, c1, c2]), kind := k
                    stamp := BitVec.ofNat 16 (leValue [s0, s1]), margin := m, corrections := x, payload := payload })
    else none
  | _, _ => none

/-- The frame that the bytes of a received chain frame (without the sync byte) hold, or none for a bad frame (R129). -/
def readChainFrame (bytes : List Byte) : Option ChainFrame :=
  match bytes with
  | l :: k :: src :: dst :: hop :: rest =>
    if 4 ≤ l.toNat ∧ l.toNat ≤ 78 ∧ rest.length = l.toNat - 4 + 2 ∧ checkMatches bytes then
      match readChainBody k (rest.take (l.toNat - 4)) with
      | none => none
      | some b => if k = 0x10 ∨ hop = 0 then some { src := src, dst := dst, hop := hop, body := b } else none
    else none
  | _ => none

/-- The command of the table that a received chain frame is (R129, R130). -/
def chainCommand (p : PortId) (bytes : List Byte) : Instr :=
  match readChainFrame bytes with
  | none => .chainBadFrame p
  | some f =>
    match f.body with
    | .offer b => .offerReceived p f.src f.dst b
    | .accept b => .acceptReceived p f.src f.dst b
    | .refuse c r => .refuseReceived p f.src f.dst c r
    | .cancel c => .cancelReceived p f.src f.dst c
    | .done c => .doneReceived p f.src f.dst c
    | .pass b => .passReceived p f.src f.dst f.hop b

/-! ### Queue records (12.4) -/

/-- The flags byte of a record: bit 0 TRUNCATED, bit 1 RELAYED, bit 2 SURVEY (12.4). Bits 3 to 7, which no rule names,
are 0 (DESIGN CHOICE, log 36). -/
def Record.flags (r : Record) : Byte := byteOf (r.truncated.toNat + 2 * r.relayed.toNat + 4 * r.survey.toNat)

/-- A record as TAKE and PEEK return it: 16 bytes, then the payload as kept (12.4). -/
def Record.bytes (q : Fin 4) (r : Record) : List Byte :=
  carBytes r.car ++ [r.kind, byteOf r.received, byteOf r.payload.length] ++ halfBytes r.stamp.toNat ++ halfBytes r.offset
    ++ [r.margin, r.corrections, r.flags, r.origin, byteOf q.val, 0] ++ r.payload

/-! ### Control link (12.3) -/

/-- The kind and the body of a notice (10.6, R180). The number of sends of DELIVERED and the record count of QUEUE_READY take 1 byte
each (DESIGN CHOICE, log 32), and a claim that QUIET_BEGIN carries is 1 when held (DESIGN CHOICE, log 37). -/
def Notice.bytes : Notice → Byte × List Byte
  | .ready c s => (0x40, [byteOf c.code, byteOf s.code])
  | .roundDone r a => (0x41, roundBytes r ++ [flagByte a])
  | .stopped r => (0x42, roundBytes r)
  | .joinAsked c i q s t b =>
    (0x43, carBytes c ++ [byteOf i.val, byteOf q.toNat, byteOf s, t] ++ leBytes 3 b.toNat)
  | .joined c i k a => (0x44, carBytes c ++ [byteOf i.val, byteOf k.code, byteOf a.toNat])
  | .departed c i r h => (0x45, carBytes c ++ [byteOf i.val, byteOf r.code] ++ roundBytes h)
  | .rateChanged c o n => (0x46, carBytes c ++ [byteOf o.code, byteOf n.code])
  | .rateHeld c k w => (0x47, carBytes c ++ [byteOf k.code, byteOf w.code])
  | .handoverOffered c i p k a => (0x48, carBytes c ++ [byteOf i.val, p, byteOf k.code, byteOf a.toNat])
  | .handoverRefused c i p r => (0x49, carBytes c ++ [byteOf i.val, p, byteOf r.code])
  | .handedOver c i p f => (0x4A, carBytes c ++ [byteOf i.val, p, flagByte f])
  | .handoverLost c i p h => (0x4B, carBytes c ++ [byteOf i.val, p] ++ roundBytes h)
  | .arrived c i p k a => (0x4C, carBytes c ++ [byteOf i.val, p, byteOf k.code, byteOf a.toNat])
  | .arrivalFailed c i p => (0x4D, carBytes c ++ [byteOf i.val, p])
  | .arrivalCancelled c i p => (0x4E, carBytes c ++ [byteOf i.val, p])
  | .delivered n c k => (0x4F, halfBytes n.toNat ++ carBytes c ++ [byteOf k])
  | .undelivered n c r f => (0x50, halfBytes n.toNat ++ carBytes c ++ [byteOf r.code, flagByte f])
  | .expired n c f => (0x51, halfBytes n.toNat ++ carBytes c ++ [flagByte f])
  | .broadcastDone i => (0x52, [i])
  | .queueReady q n => (0x53, [byteOf q.val, byteOf n])
  | .queueLost q n => (0x54, [byteOf q.val, byteOf n])
  | .quietBegin l h => (0x55, [flagByte l, flagByte h])
  | .quietEnd d => (0x56, halfBytes d)
  | .quietBreach c s r => (0x57, carBytes c ++ [byteOf s.code] ++ roundBytes r)
  | .storeDone => (0x58, [])
  | .storeFault o => (0x59, halfBytes o)
  | .noticesLost n => (0x5A, halfBytes n)

/-- A control-link frame from the sync byte to the check word (12.3). -/
def controlFrameBytes (kind tag : Byte) (body : List Byte) : List Byte :=
  0xC3 :: withCheck (halfBytes (2 + body.length) ++ kind :: tag :: body)

/-- The bytes of the frame on the transmit line: a notice's tag is 0, a reply's first body byte its status (R163, R166). -/
def LineFrame.bytes : LineFrame → List Byte
  | .reply r => controlFrameBytes r.kind r.tag (byteOf r.status.code :: r.body)
  | .notice n => controlFrameBytes n.bytes.1 0 n.bytes.2

/-- The command of the table that a received control-link frame (without the sync byte) is (R162, R163). -/
def controlCommand (bytes : List Byte) : Instr :=
  match bytes with
  | l0 :: l1 :: k :: t :: rest =>
    let l := leValue [l0, l1]
    if 2 ≤ l ∧ l ≤ 300 ∧ rest.length = l - 2 + 2 ∧ checkMatches bytes then .requestReceived k t (rest.take (l - 2))
    else .controlBadFrame
  | _ => .controlBadFrame

end Sys2Proof.Machine
end

