-- ==== Sys2Proof/Machine/Airtime.lean ====
section
/-!
DEFINITION. Airtime arithmetic, the fit rule and the allowance grant (R2 to R7), over the order table of the state.
-/
namespace Sys2Proof.Machine

/-- D of a class with the node's downlink allowance (R3). -/
def downlinkLength (pd : Code) (cls : RateClass) : Nat := 6 + (codeBytes pd + 8) * cls.auPerByte

/-- U of a class with a granted uplink allowance (R3). -/
def uplinkLength (pu : Code) (cls : RateClass) : Nat := 6 + (codeBytes pu + 10) * cls.auPerByte

/-- The slot of an entry (R5). -/
def slotLength (pd pu : Code) (cls : RateClass) : Nat := downlinkLength pd cls + uplinkLength pu cls + 10

/-- Airtime of a burst: preamble, then its bytes at the class's rate (R3, R4). -/
def burstAirtime (cls : RateClass) (bytes : Nat) : Nat := 6 + bytes * cls.auPerByte

/-- The fixed part F of a round (R4). -/
def RoundGroup.fixedPart (r : RoundGroup) : Nat := 240 + r.g1 + 80 * r.joinSlots + r.g2

/-- The roster entry at an index. -/
def State.entry (s : State) (i : Index) : Entry := s.roster[i.val]

/-- The sum of the slots of the entries an order table lists, at their classes (R5). -/
def slotsAirtime (pd : Code) (roster : Vector Entry 24) (order : List Index) : Nat :=
  (order.map fun i => slotLength pd (roster[i.val]).granted (roster[i.val]).rate).sum

/-- The order-table airtime under given ROUND settings (R5). -/
def State.airtimeWith (s : State) (r : RoundGroup) : Nat := r.fixedPart + slotsAirtime r.pd s.roster s.order

/-- The order-table airtime (R5). -/
def State.airtime (s : State) : Nat := s.airtimeWith s.image.round

/-- The free airtime (R5). -/
def State.freeAirtime (s : State) : Nat := s.image.round.period - s.airtime

/-- The fit rule for one more slot at a class and allowance (R6). -/
def State.fitsOneMore (s : State) (pu : Code) (cls : RateClass) : Bool :=
  s.airtime + slotLength s.image.round.pd pu cls ≤ s.image.round.period

/-- The codes the allowance grant tries, from a number of codes down to code 1 (R7): the first that fits. -/
def grantFrom (s : State) (cls : RateClass) : Nat → Option Code
  | 0 => none
  | n + 1 => if s.fitsOneMore (BitVec.ofNat 4 (n + 1)) cls then some (BitVec.ofNat 4 (n + 1)) else grantFrom s cls n

/-- The allowance grant (R7): a request of 0 is taken as 1. -/
def State.grant (s : State) (requested : Code) (cls : RateClass) : Option Code := grantFrom s cls (max requested.toNat 1)

/-- The initial class from a join sample, by the thresholds in force (step 2 of R36). -/
def initialClass (l : LinkGroup) (sample : Nat) : RateClass :=
  if l.promote ≤ sample then .a else if sample < l.demote then .c else .b

end Sys2Proof.Machine
end

