-- ==== Sys2Proof/Machine/Ops.lean ====
section
/-!
DEFINITION. The named operations over the state that the commands share: posting notices and replies, reading and writing
roster entries, answers, bars, freeing an entry, depositing a record, submitting a chain frame.
-/
namespace Sys2Proof.Machine

/-! ### The control link's transmitter (R165 to R167) -/

/-- An idle transmitter takes the head of the reply queue, else the head of the notice queue (R167); a notice that leaves
while notices were lost makes NOTICES_LOST in the freed place (R166). While a RESTART is under way no notice is taken (R169). -/
def ControlLink.kick (k : ControlLink) : ControlLink :=
  match k.line, k.replies, k.notices with
  | some _, _, _ => k
  | none, r :: rs, _ => { k with replies := rs, line := some (.reply r) }
  | none, [], [] => k
  | none, [], n :: ns =>
    if k.restarting then k
    else if 0 < k.noticesLost then
      { k with notices := ns ++ [.noticesLost k.noticesLost], noticesLost := 0, line := some (.notice n) }
    else { k with notices := ns, line := some (.notice n) }

/-- The notice queue holds up to 32 notices (R166). -/
def noticeCapacity : Nat := 32

/-- A notice handed to the notice queue: queued, or dropped and counted when the queue is full (R166). -/
def ControlLink.post (n : Notice) (k : ControlLink) : ControlLink :=
  if k.notices.length < noticeCapacity then ControlLink.kick { k with notices := k.notices ++ [n] }
  else { k with noticesLost := count16 k.noticesLost }

/-- A reply joins the tail of the reply queue (R165). -/
def ControlLink.reply (r : Reply) (k : ControlLink) : ControlLink := ControlLink.kick { k with replies := k.replies ++ [r] }

/-- Sends a notice to the host. -/
def notify (n : Notice) (s : State) : State := { s with control := s.control.post n }

/-- Sends notices to the host, in order. -/
def notifyAll (ns : List Notice) (s : State) : State := ns.foldl (fun t n => notify n t) s

/-! ### Roster entries (R27, R29) -/

/-- The roster indices in order. -/
def indices : List Index := List.finRange 24

def State.setEntry (s : State) (i : Index) (e : Entry) : State := { s with roster := s.roster.set i.val e }

def State.updateEntry (s : State) (i : Index) (f : Entry → Entry) : State := s.setEntry i (f (s.entry i))

/-- Every entry changed by the same function. -/
def State.mapEntries (s : State) (f : Entry → Entry) : State :=
  { s with roster := ⟨(s.roster.toList.map f).toArray, by simp⟩ }

/-- The non-FREE entry that holds a car number (R29). -/
def State.findCar (s : State) (car : CarNumber) : Option Index :=
  indices.find? fun i => decide ((s.entry i).state ≠ .free ∧ (s.entry i).car = car)

/-- The FREE entry with the lowest roster index (R29). -/
def State.firstFree (s : State) : Option Index := indices.find? fun i => decide ((s.entry i).state = .free)

/-- The number of entries in a state (R168). -/
def State.countIn (s : State) (x : EntryState) : Nat := (indices.filter fun i => decide ((s.entry i).state = x)).length

/-- The number of commands in the pool (R87). -/
def State.poolCount (s : State) : Nat := (indices.map fun i => (s.entry i).commands.length).sum

/-- An entry becomes slotted: it is written and its index appended to the order table (R30). -/
def State.slotIn (s : State) (i : Index) (e : Entry) : State :=
  { s.setEntry i e with order := s.order ++ [i] }

/-! ### Join answers and bars (R41, R47) -/

def answerCapacity : Nat := 8

/-- Whether an answer for a car is waiting (R33). -/
def State.answerWaits (s : State) (car : CarNumber) : Bool := s.answers.any fun a => a.car == car

/-- An answer added at the tail, when the list has room and holds no answer for the car (R41). -/
def addAnswer (a : Answer) (s : State) : State :=
  if s.answers.length < answerCapacity ∧ s.answerWaits a.car = false then { s with answers := s.answers ++ [a] } else s

/-- The answer that tells a car its entry's index, allowance and class (R41). -/
def State.placeAnswer (s : State) (i : Index) : Answer :=
  { car := (s.entry i).car, result := .place i (s.entry i).granted (s.entry i).rate }

/-- The bar list without the bar with the fewest rounds remaining, the one nearest the head of several (R47). -/
def dropFewest (bars : List Bar) : List Bar :=
  let least := (bars.map Bar.rounds).foldl min 65535
  bars.eraseP fun b => b.rounds == least

/-- A bar added to the bar list, for a bar count above 0 (R47). -/
def addBar (car : CarNumber) (rounds : Nat) (s : State) : State :=
  if rounds = 0 then s
  else if s.bars.any (fun b => b.car == car) then
    { s with bars := s.bars.map fun b => if b.car = car then { b with rounds := rounds } else b }
  else if s.bars.length < 8 then { s with bars := s.bars ++ [{ car := car, rounds := rounds }] }
  else { s with bars := dropFewest s.bars ++ [{ car := car, rounds := rounds }] }

/-! ### Freeing an entry (R48) -/

/-- A plan whose positions of an index have become stale (R19). -/
def Plan.markStale (i : Index) (p : Plan) : Plan :=
  { p with positions := p.positions.map fun q => if q.index = i then { q with stale := true } else q }

/-- A plan whose slots no longer name a command number: the command sent under it is not in the pool (R94). -/
def Plan.forgetSent (n : Half) (p : Plan) : Plan :=
  { p with positions := p.positions.map fun q => if q.sent = .command n then { q with sent := .nothing } else q }

/-- The three plans kept, none of their slots naming a command number any more. -/
def Engine.forgetSent (n : Half) (e : Engine) : Engine :=
  { e with plan := e.plan.forgetSent n, prev := e.prev.forgetSent n, older := e.older.forgetSent n }

/-- The core effects of freeing (R48): the entry FREE, out of the order table, its plan positions stale, and its place
answer out of the answer list. A denial answer stays (R41; log 17). -/
def clearEntry (i : Index) (s : State) : State :=
  { s.setEntry i Entry.vacant with
    order := s.order.erase i
    answers := s.answers.filter fun a =>
      match a.result with
      | .place .. => a.car != (s.entry i).car
      | .denial _ => true
    engine := { s.engine with
      plan := s.engine.plan.markStale i, prev := s.engine.prev.markStale i, older := s.engine.older.markStale i } }

/-- The UNDELIVERED notices of an entry's commands, oldest first (R100). -/
def Entry.undelivered (e : Entry) (r : UndeliveredReason) : List Notice :=
  e.commands.map fun k => .undelivered k.number e.car r k.sent

/-- Freeing an entry: its core effects, the notice that reports it when there is one, then the UNDELIVERED notices of the
commands it held (R48, R100). -/
def freeEntry (i : Index) (note : Option Notice) (r : UndeliveredReason) (s : State) : State :=
  notifyAll (note.toList ++ (s.entry i).undelivered r) (clearEntry i s)

/-! ### Chain ports (R131, R132) -/

def State.port (s : State) : PortId → Port
  | .up => s.ports.up
  | .down => s.ports.down

def State.setPort (s : State) (p : PortId) (x : Port) : State :=
  match p with
  | .up => { s with ports := { s.ports with up := x } }
  | .down => { s with ports := { s.ports with down := x } }

def State.updatePort (s : State) (p : PortId) (f : Port → Port) : State := s.setPort p (f (s.port p))

/-- A transmitter sending fill takes the head of the handover out queue, else of the pass-along out queue (R132). -/
def Port.kick (x : Port) : Port :=
  match x.line, x.handover, x.passAlong with
  | some _, _, _ => x
  | none, f :: fs, _ => { x with handover := fs, line := some f }
  | none, [], f :: fs => { x with passAlong := fs, line := some f }
  | none, [], [] => x

/-- What a chain port's transmitter sends between frames (R127). -/
def fillByte : Byte := 0x55

/-- The bytes a port's transmitter has on the line: the frame being sent, or fill (R127). -/
def Port.sends (x : Port) : List Byte :=
  match x.line with
  | none => [fillByte]
  | some f => chainFrameBytes f

/-- What this node's transmitter at a port sends: nothing from the start of a full reset until start-up ends (R127). A RESTART's
start-up is inside the step that takes effect. -/
def State.portSends (s : State) (p : PortId) : List Byte := if s.inReset then [] else (s.port p).sends

def handoverCapacity : Nat := 8
def passCapacity : Nat := 16

/-- A frame lost: the port's dropped count rises (R131). -/
def Port.drop (x : Port) : Port := { x with counters := { x.counters with dropped := count16 x.counters.dropped } }

/-- A handover frame submitted: dropped at a DOWN port or a full queue, else queued at the tail (R131). -/
def Port.submitHandover (f : ChainFrame) (x : Port) : Port :=
  if x.isUp ∧ x.handover.length < handoverCapacity then Port.kick { x with handover := x.handover ++ [f] } else x.drop

/-- A pass-along frame submitted (R131). -/
def Port.submitPass (f : ChainFrame) (x : Port) : Port :=
  if x.isUp ∧ x.passAlong.length < passCapacity then Port.kick { x with passAlong := x.passAlong ++ [f] } else x.drop

/-- The number of the neighbour configured at a port (R105). -/
def State.neighbour (s : State) : PortId → Byte
  | .up => s.image.node.upNeighbour
  | .down => s.image.node.downNeighbour

/-- The port whose configured neighbour a node is, which is not 0 (R59, R105). -/
def State.portFacing (s : State) (n : Byte) : Option PortId :=
  if n = 0 then none
  else if n = s.image.node.upNeighbour then some .up
  else if n = s.image.node.downNeighbour then some .down
  else none

/-- A handover frame sent on a port: this node the source, hop count 0 (R105). -/
def sendHandover (p : PortId) (dst : Byte) (b : ChainBody) (s : State) : State :=
  s.updatePort p (Port.submitHandover { src := s.image.node.node, dst := dst, hop := 0, body := b })

/-- A handover frame sent to a peer on the port facing it (R105). -/
def sendToPeer (peer : Option Byte) (b : ChainBody) (s : State) : State :=
  match peer with
  | none => s
  | some n =>
    match s.portFacing n with
    | none => s
    | some p => sendHandover p n b s

/-- The port facing the portal; none at a SELF node (R134). -/
def State.portalPort (s : State) : Option PortId :=
  match s.image.node.portal with
  | .up => some .up
  | .down => some .down
  | .self => none

/-- A PASS frame submitted to a port: this node the source, destination 0 (R134, R135). -/
def sendPass (p : PortId) (hop : Byte) (b : PassBody) (s : State) : State :=
  s.updatePort p (Port.submitPass { src := s.image.node.node, dst := 0, hop := hop, body := .pass b })

/-! ### Node counters (R149) -/

def State.countWith (s : State) (f : NodeCounters → NodeCounters) : State := { s with counters := f s.counters }

/-! ### Receive queues (R79 to R82) -/

def State.rx (s : State) (q : Fin 4) : RxQueue := s.queues[q.val]

def State.setRx (s : State) (q : Fin 4) (x : RxQueue) : State := { s with queues := s.queues.set q.val x }

/-- The settings in force of a queue (R77). -/
def State.queueSetting (s : State) (q : Fin 4) : QueueSetting := s.image.queues.queue[q.val]

/-- The threshold count of a queue with a depth above 0: depth × eighths / 8 rounded up, at least 1 (R81). -/
def QueueSetting.thresholdCount (q : QueueSetting) : Nat := max ((q.depth * q.threshold + 7) / 8) 1

/-- The payload of a record cut to a storage size, with TRUNCATED set when it was longer (R79). -/
def Record.keepIn (storage : Code) (r : Record) : Record :=
  { r with payload := r.payload.take (codeBytes storage), truncated := decide (codeBytes storage < r.received) }

/-- Whether the arrival that brings a queue to a count sends QUEUE_READY (R81). -/
def QueueSetting.announces (q : QueueSetting) (count : Nat) : Bool :=
  q.notice && (q.threshold == 0 || count == q.thresholdCount)

/-- A queue after an arrival that finds it full: the lost count rises, and an overflow episode begins unless the depth is 0
(R82). -/
def RxQueue.lose (depth : Nat) (x : RxQueue) : RxQueue :=
  { x with lost := saturate 255 x.lost, episode := x.episode || depth != 0 }

/-- One arrival at the tail of a queue (R80 to R82). -/
def deposit (q : Fin 4) (r : Record) (s : State) : State :=
  let cfg := s.queueSetting q
  let x := s.rx q
  if x.records.length < cfg.depth then
    let x' := { x with records := x.records ++ [r.keepIn cfg.storage] }
    let s' := s.setRx q x'
    if cfg.announces x'.records.length then notify (.queueReady q x'.records.length) s' else s'
  else
    let x' := x.lose cfg.depth
    let s' := s.setRx q x'
    if cfg.depth ≠ 0 ∧ x.episode = false then notify (.queueLost q x'.lost) s' else s'

/-- A queue after records have left it: an overflow episode ends once the count is below the depth (R82). -/
def RxQueue.settleEpisode (depth : Nat) (x : RxQueue) : RxQueue :=
  { x with episode := x.episode && !decide (x.records.length < depth) }

end Sys2Proof.Machine
end

