-- ==== Sys2Proof/Machine/RoundStart.lean ====
section
/-!
DEFINITION. The round start (R16) as one operation, with all that the other blocks do at a round start: pending live settings
(R172), phase timers (R107), confirm timers (R40), bars (R47), pace counts (R96), ages and expiry of commands (R97), the grace
count (R43), class changes (R8, R9), the plan (R17), the answers and the broadcast (R41, R103), the beacon (R20).
-/
namespace Sys2Proof.Machine

/-! ### Settings and counts -/

/-- Pending live values come into force (R172). -/
def liveIntoForce (s : State) : State := { s with live := s.image.liveGroups, unapplied := Unapplied.none }

/-- An entry sent back to ACTIVE from OFFERING: peer and phase timer removed, lead count 0 (R112, R114). -/
def Entry.backToActive (e : Entry) : Entry :=
  { e with state := .active, peer := none, phaseTimer := none, target := none, leadCount := 0 }

/-- The offer timer of an OFFERING entry has expired (R114). -/
def offerExpired (i : Index) (s : State) : State :=
  let e := s.entry i
  notify (.handoverRefused e.car i (nodeByte e.peer) .noAnswer) (s.setEntry i e.backToActive)

/-- The move timer of a MOVING entry has expired (R115). -/
def moveExpired (i : Index) (s : State) : State :=
  let e := s.entry i
  freeEntry i (some (.handoverLost e.car i (nodeByte e.peer) e.lastHeard)) .moved s

/-- The arrival timer of an ARRIVING entry has expired (R119). -/
def arrivalExpired (i : Index) (s : State) : State :=
  let e := s.entry i
  freeEntry i (some (.arrivalFailed e.car i (nodeByte e.peer))) .moved s

/-- The expiry of a phase timer, by the state of its entry (R107). -/
def phaseExpired (i : Index) (s : State) : State :=
  match (s.entry i).state with
  | .offering => offerExpired i s
  | .moving => moveExpired i s
  | .arriving => arrivalExpired i s
  | _ => s

/-- Whether an entry's phase timer runs out at this round start: its last count (R107). -/
def Entry.phaseRunsOut (e : Entry) : Bool :=
  e.state.inHandover && (match e.phaseTimer with | none => false | some t => decide (t ≤ 1))

/-- One phase timer counted down at a round start, and its expiry handled (R107). -/
def countPhase (i : Index) (s : State) : State :=
  let e := s.entry i
  if e.phaseRunsOut then phaseExpired i s
  else s.setEntry i { e with phaseTimer := e.phaseTimer.map (· - 1) }

/-- The confirm timer of a PENDING entry has run out (R40). -/
def confirmExpired (i : Index) (s : State) : State :=
  let e := s.entry i
  freeEntry i (some (.departed e.car i .confirmTimeout e.lastHeard)) .departed s

/-- Whether a PENDING entry's confirm timer runs out at this round start (R40). -/
def Entry.confirmRunsOut (e : Entry) : Bool := e.state == .pending && decide (e.confirmTimer ≤ 1)

/-- One confirm timer counted down (R40). -/
def countConfirm (i : Index) (s : State) : State :=
  let e := s.entry i
  if e.confirmRunsOut then confirmExpired i s
  else s.setEntry i { e with confirmTimer := e.confirmTimer - 1 }

/-- Every bar counted down, and those that reach 0 removed (R47). -/
def countBars (s : State) : State :=
  { s with bars := (s.bars.map fun b => { b with rounds := b.rounds - 1 }).filter fun b => b.rounds != 0 }

/-- The pace counts counted down (R96), and every command's age raised, stopping at 65,535 (R97). -/
def Entry.countRound (e : Entry) : Entry :=
  { e with pace := e.pace - 1, commands := e.commands.map fun k => { k with age := saturate 65535 k.age } }

/-- Whether a command's age has reached its expiry (R97). -/
def Command.isExpired (k : Command) : Bool := k.expiry != 0 && decide (k.expiry ≤ k.age)

/-- The commands of one entry that have reached their expiry, removed and reported, oldest first (R97). -/
def expireEntry (i : Index) (s : State) : State :=
  let e := s.entry i
  notifyAll ((e.commands.filter Command.isExpired).map fun k => .expired k.number e.car k.sent)
    (s.setEntry i { e with commands := e.commands.filter fun k => !k.isExpired })

/-- An operation on each roster index in order. -/
def forEach (f : Index → State → State) (s : State) : State := indices.foldl (fun t i => f i t) s

/-- The grace count at a round start, and whether the round is a grace round (R43). -/
def graceAt (resume : Bool) (setting count : Nat) : Nat × Bool :=
  if resume then (setting, true) else (count - 1, decide (0 < count))

/-- The counts of every block at a round start, before phase 1 of R16: phase timers first (R107), then confirm timers and
bars, then pace counts and ages (R97). The order of the confirm timers and the bars among these is DEDUCED (log 11). -/
def roundCounts (s : State) : State :=
  forEach expireEntry ((countBars (forEach countConfirm (forEach countPhase s))).mapEntries Entry.countRound)

/-! ### Class changes (R8, R9) -/

/-- A class change applied: the class becomes the wanted class, the rate-held flag clears, RATE_CHANGED is sent (R8). -/
def applyClass (i : Index) (s : State) : State :=
  let e := s.entry i
  notify (.rateChanged e.car e.rate e.wantedRate) (s.setEntry i { e with cls := some e.wantedRate, rateHeld := false })

/-- A pending promotion applied; a rate-held flag cleared when the wanted class is not slower (R8). -/
def promoteEntry (i : Index) (s : State) : State :=
  let e := s.entry i
  if e.rate.slowerThan e.wantedRate then applyClass i s
  else if e.wantedRate.slowerThan e.rate then s
  else s.setEntry i { e with rateHeld := false }

/-- A demotion held: RATE_HELD only when the flag was clear (R9). -/
def holdDemotion (i : Index) (s : State) : State :=
  let e := s.entry i
  let s' := s.setEntry i { e with rateHeld := true }
  if e.rateHeld then s' else notify (.rateHeld e.car e.rate e.wantedRate) s'

/-- A pending demotion tested against the running total, which is the order-table airtime as the changes before it left it,
and applied or held (R8). -/
def demoteEntry (i : Index) (s : State) : State :=
  let e := s.entry i
  if e.wantedRate.slowerThan e.rate then
    if (s.setEntry i { e with cls := some e.wantedRate }).airtime ≤ s.image.round.period then applyClass i s
    else holdDemotion i s
  else s

/-- Phase 1 of R16: promotions in order-table order, then demotions in order-table order (R8). -/
def classChanges (s : State) : State :=
  let s' := s.order.foldl (fun t i => promoteEntry i t) s
  s'.order.foldl (fun t i => demoteEntry i t) s'

/-! ### Plan and beacon (R16, R17, R20) -/

/-- One plan position at a start offset (R17). -/
def positionAt (s : State) (i : Index) (start : Nat) : Position where
  index := i
  car := (s.entry i).car
  cls := (s.entry i).rate
  start := start
  d := downlinkLength s.image.round.pd (s.entry i).rate
  u := uplinkLength (s.entry i).granted (s.entry i).rate
  stale := false
  started := false
  closed := false
  sent := .nothing

/-- The slot of a plan position (R3). -/
def Position.slot (p : Position) : Nat := p.d + p.u + 10

/-- The positions of a plan, each starting where the one before it ends (R17). -/
def positionsFrom (s : State) : Nat → List Index → List Position
  | _, [] => []
  | start, i :: is => positionAt s i start :: positionsFrom s (start + (positionAt s i start).slot) is

/-- The offset of the first car slot (R2). -/
def RoundGroup.firstSlot (r : RoundGroup) : Nat := 240 + r.g1

/-- The join windows of a round, one for each join slot (R25). -/
def joinWindows (j : Nat) : List (Fin 4) := (List.finRange 4).filter fun k => decide (k.val < j)

/-- Phase 2 of R16: the plan built from the order table (R17), for a round number and its grace state. -/
def buildPlan (s : State) (round : RoundNumber) (grace : Bool) : Plan where
  round := round
  positions := positionsFrom s s.image.round.firstSlot s.order
  joinStart := s.image.round.firstSlot + ((positionsFrom s s.image.round.firstSlot s.order).map Position.slot).sum
  joins := joinWindows s.image.round.joinSlots
  grace := grace

/-- The round number increased by 1 (R22); past its top, a free value (log 1). -/
def nextRound (s : State) : RoundNumber :=
  if s.engine.round = 0xFFFFFFFF#32 then Config.roundNumberPastTop s.freeIndex else s.engine.round + 1

/-- The airtime of the beacon: 114 bytes at class B (R4). -/
def beaconAirtime : Nat := burstAirtime .b 114

/-- The head broadcast with one repeat less, once its beacon has begun (R103). -/
def spendRepeat : List Broadcast → List Broadcast
  | [] => []
  | b :: bs => { b with repeats := b.repeats - 1 } :: bs

/-- Phases 2 to 6 of R16: plan, answers, broadcast, round number, beacon. -/
def beginRound (s : State) : State :=
  let n := nextRound s
  let g := graceAt s.engine.resumePending s.live.roster.graceRounds s.grace
  let p := buildPlan s n g.2
  { s with
    engine :=
      { s.engine with
        round := n
        resumePending := false
        inProgress := true
        plan := p
        prev := s.engine.plan
        older := s.engine.prev
        radio := some
          { bytes := beaconBytes s.image.node.node s.engine.resumePending (s.engine.state == .stepping) n p.positions
              (s.answers.take 4) s.broadcasts.head?
            cls := .b
            begins := 0
            ends := beaconAirtime } }
    answers := s.answers.drop 4
    broadcasts := spendRepeat s.broadcasts
    grace := g.1
    freeIndex := if s.engine.round = 0xFFFFFFFF#32 then s.freeIndex + 1 else s.freeIndex }

/-- A whole round start (R16). A broadcast whose last repeat it spends is removed by BROADCAST_DONE (R103). -/
def startRound (s : State) : State := beginRound (classChanges (roundCounts (liveIntoForce s)))

/-! ### What is due at once -/

/-- A round start is due: the engine is RUNNING or STEPPING with no round in progress and the quiet controller is OPEN
(R11, R13, R14, R15). -/
def State.roundDue (s : State) : Bool :=
  (s.engine.state == .running || s.engine.state == .stepping) && s.quiet.state == .opened && !s.engine.inProgress

/-- Whether the head broadcast's last beacon has begun (R103). -/
def State.broadcastSpent (s : State) : Bool :=
  match s.broadcasts with
  | [] => false
  | b :: _ => b.repeats == 0

/-- A spent head broadcast is removed and BROADCAST_DONE sent (R103). -/
def finishBroadcast (s : State) : State :=
  match s.broadcasts with
  | [] => s
  | b :: bs => if b.repeats = 0 then notify (.broadcastDone b.id) { s with broadcasts := bs } else s

/-- What is due at once is taken before anything else: a BROADCAST_DONE, then a round start and its own BROADCAST_DONE
(DEDUCED from "at once" in R11, R13, R14, R15, R145; log 9). -/
def settle (s : State) : State :=
  let s' := finishBroadcast s
  if s'.roundDue then finishBroadcast (startRound s') else s'

end Sys2Proof.Machine
end

