-- ==== Sys2Proof/Machine/Serve.lean ====
section
/-!
DEFINITION. How an event reaches the part (nothing reaches it in reset; what is due at once comes first), and how a request
arrives, is taken and is answered (R163 to R165, R169).
-/
namespace Sys2Proof.Machine

/-- The outcome of every command: the spec describes no machine stop. -/
abbrev Result := Host.Outcome State Fault Refusal

/-- An event that reaches the part: nothing is received or done from the start of a full reset until start-up ends (R161,
R177); otherwise what is due at once is taken first (`settle`), and then the event. -/
def onEvent (f : State → State) (s : State) : Result := .next (if s.inReset then s else f (settle s))

/-- An event that belongs to a round start that is due, or is the round start itself: only a spent broadcast is taken
first. -/
def onRoundStart (f : State → State) (s : State) : Result := .next (if s.inReset then s else f (finishBroadcast s))

/-! ### Arrival (R162, R164, R169) -/

def bufferCapacity : Nat := 4
def busyCapacity : Nat := 8

/-- A refusal enters the busy list and its BUSY reply the reply queue (R164, R165). -/
def refuseBusy (r : Request) (k : ControlLink) : ControlLink :=
  ControlLink.reply { kind := replyKind r.kind, tag := r.tag, status := .busy, body := [], busy := true }
    { k with busy := k.busy ++ [{ kind := r.kind, tag := r.tag }] }

/-- Whether the control link's receiver may start a frame: not while the busy list holds 8 refusals (R164), nor once a RESTART
has been taken (step 1 of R169). -/
def ControlLink.mayStart (k : ControlLink) : Bool := decide (k.busy.length < busyCapacity) && !k.restarting

/-- Whether a frame that ends now was begun: its sync byte had arrived, or it arrives whole and may be started (R162). -/
def ControlLink.begun (k : ControlLink) : Bool := k.receiver != .hunting || k.mayStart

/-- A frame that passed the frame check: it joins the request buffer, or is refused BUSY when the buffer holds 4 requests or a
RESTART has been taken (R164, R169). A frame that the receiver did not start is lost. -/
def ControlLink.arrive (r : Request) (k : ControlLink) : ControlLink :=
  let k' := { k with receiver := .hunting }
  if k.begun = false then k'
  else if k.restarting ∨ bufferCapacity ≤ k.buffer.length then
    if busyCapacity ≤ k.busy.length then k' else refuseBusy r k'
  else { k' with buffer := k.buffer ++ [{ request := r, taken := false }] }

/-- A bad frame: discarded, and counted when the receiver had started it (R162, R164, R169). -/
def ControlLink.badFrame (k : ControlLink) : ControlLink :=
  { k with receiver := .hunting, badFrames := if k.begun then count16 k.badFrames else k.badFrames }

/-- A frame received: one whose length lies above 300 is bad (R162). -/
def receiveRequest (r : Request) (s : State) : State :=
  if maxBody < r.body.length then { s with control := s.control.badFrame }
  else { s with control := s.control.arrive r }

/-! ### Taking a request (R164, R165) -/

/-- The oldest request in the buffer not yet taken (R164). -/
def ControlLink.waiting (k : ControlLink) : Option Request :=
  (k.buffer.find? fun b => !b.taken).map BufferedRequest.request

/-- The buffer with its oldest request not yet taken marked taken (R164). -/
def markTaken : List BufferedRequest → List BufferedRequest
  | [] => []
  | b :: bs => if b.taken then b :: markTaken bs else { b with taken := true } :: bs

/-- What an owner decides of a request: the status and body of its reply, and its effect, which comes after the reply has
joined the reply queue, so that the reply goes out before the notices the request causes (R167). -/
structure Decision where
  status : Status
  body : List Byte
  effect : State → State

/-- A refusal that names nothing further and changes nothing (R165). -/
def Decision.refuse (x : Status) : Decision := { status := x, body := [], effect := id }

/-- An answer that changes nothing. -/
def Decision.answer (x : Status) (body : List Byte) : Decision := { status := x, body := body, effect := id }

/-- An OK that carries nothing further, with an effect. -/
def Decision.accept (f : State → State) : Decision := { status := .ok, body := [], effect := f }

/-- The reply a decision gives to a request (R163). -/
def Decision.reply (d : Decision) (r : Request) : Reply :=
  { kind := replyKind r.kind, tag := r.tag, status := d.status, body := d.body, busy := false }

/-- The oldest request not yet taken is marked taken and its reply queued (R164, R165). -/
def ControlLink.answer (r : Reply) (k : ControlLink) : ControlLink := ControlLink.reply r { k with buffer := markTaken k.buffer }

/-- The oldest request not yet taken is taken and decided: it is marked, its reply queued, its effect had (R164). -/
def takeRequest (r : Request) (decide : State → Decision) (s : State) : State :=
  let d := if badRequestFrame r then Decision.refuse .badRequest else decide s
  d.effect { s with control := s.control.answer (d.reply r) }

/-- A request row of the table: the request is taken if it is the oldest not yet taken in the buffer; otherwise its frame
arrives now, and it is taken at once when nothing is ahead of it (R164; DEDUCED, log 19). -/
def serve (r : Request) (decide : State → Decision) (s : State) : State :=
  let s' := if s.control.waiting = some r then s else receiveRequest r s
  if s'.control.waiting = some r then takeRequest r decide s' else s'

/-- The request a request row stands for; every request row has one (`requestOf`). -/
def rowRequest (c : Instr) : Request := (requestOf c).getD { kind := 0, tag := 0, body := [] }

/-- A request row: what reaches the part is its request, decided by its owner. -/
def onRequest (c : Instr) (decide : State → Decision) (s : State) : Result := onEvent (serve (rowRequest c) decide) s

end Sys2Proof.Machine
end

