-- ==== Sys2Proof/Machine/Rounds.lean ====
section
/-!
DEFINITION. The round engine's commands (01): START, STOP, STEP, PLAN, the round start and its rows, the end of a round, the
start of a slot; and what enters STOPPED or SILENT, which other families share.
-/
namespace Sys2Proof.Machine

/-! ### START, STOP, STEP (R11 to R13) -/

/-- START taken from STOPPED with a node number: RUNNING or PAUSED by the ROUND mode, resume-pending set (R11). -/
def startEngine (s : State) : State :=
  { s with engine := { s.engine with
      state := match s.image.round.mode with | .free => .running | .stepped => .paused
      resumePending := true } }

/-- START, by the engine state (R11). -/
def decideStart (s : State) : Decision :=
  match s.engine.state with
  | .stopped => if s.image.node.node = 0 then .refuse .unconfigured else .accept startEngine
  | .stopping => .refuse .busy
  | .running | .paused | .stepping => .refuse .badState

def execStart (tag : Byte) (s : State) : Result := onRequest (.start tag) decideStart s

/-- The engine enters STOPPED and sends STOPPED with the number of the last round begun (R14). -/
def enterStopped (s : State) : State :=
  notify (.stopped s.engine.round) { s with engine := { s.engine with state := .stopped } }

/-- STOP, by the engine and the quiet state (R12). The cases R12 says do not arise change nothing. -/
def stopEngine (s : State) : State :=
  match s.engine.state, s.quiet.state with
  | .running, .opened => { s with engine := { s.engine with state := .stopping } }
  | .running, _ => enterStopped s
  | .stepping, .opened => { s with engine := { s.engine with state := .stopping } }
  | .paused, _ => enterStopped s
  | _, _ => s

/-- STOP is always answered OK (R12). -/
def decideStop (_ : State) : Decision := .accept stopEngine

def execStop (tag : Byte) (s : State) : Result := onRequest (.stop tag) decideStop s

/-- STEP makes the engine STEPPING; its round start is then due at once (R13, R15). -/
def stepEngine (s : State) : State := { s with engine := { s.engine with state := .stepping } }

/-- STEP, by the engine and the quiet state (R13). -/
def decideStep (s : State) : Decision :=
  match s.engine.state, s.quiet.state with
  | .paused, .opened => .accept stepEngine
  | .paused, _ => .refuse .badState
  | .stepping, _ => .refuse .busy
  | _, _ => .refuse .badState

def execStepRound (tag : Byte) (s : State) : Result := onRequest (.stepRound tag) decideStep s

/-! ### PLAN (R26) -/

/-- A plan position as PLAN reports it (R26, R180); a stale one has 1 last, any other 0 (DESIGN CHOICE, log 37). -/
def Position.replyBytes (p : Position) : List Byte :=
  [byteOf p.index.val] ++ carBytes p.car ++ [byteOf p.cls.code] ++ halfBytes p.start ++ halfBytes p.d ++ halfBytes p.u
    ++ [flagByte p.stale]

/-- The fields of the PLAN reply (R26): the order-table airtime and the free airtime are those of the moment. -/
def State.planBytes (s : State) : List Byte :=
  [byteOf s.engine.state.code] ++ roundBytes s.engine.plan.round ++ [byteOf s.engine.plan.positions.length]
    ++ s.engine.plan.positions.flatMap Position.replyBytes
    ++ halfBytes s.image.round.period ++ halfBytes s.image.round.fixedPart ++ halfBytes s.airtime ++ halfBytes s.freeAirtime

def decidePlan (s : State) : Decision := .answer .ok s.planBytes

def execPlan (tag : Byte) (s : State) : Result := onRequest (.plan tag) decidePlan s

/-! ### The round start and the rows inside it (R16, R107, R40, R47, R97, R103) -/

/-- The round start, when one is due (R15). -/
def startDueRound (s : State) : State := if s.roundDue then startRound s else s

/-- ROUND_START (R16). -/
def execRoundStart (s : State) : Result := onRoundStart startDueRound s

/-- A row inside a round start, taken as a step of its own: it acts when a round start is due and what it names runs out at
that round start (log 10). -/
def whenDue (runsOut : State → Bool) (f : State → State) (s : State) : State := if s.roundDue && runsOut s then f s else s

/-- Whether the phase timer of an entry in a state runs out at the round start that is due. -/
def phaseDue (i : Index) (x : EntryState) (s : State) : Bool := (s.entry i).state == x && (s.entry i).phaseRunsOut

/-- OFFER_TIMER_EXPIRY (R114). -/
def execOfferTimerExpiry (i : Index) (s : State) : Result := onRoundStart (whenDue (phaseDue i .offering) (offerExpired i)) s

/-- MOVE_TIMER_EXPIRY (R115). -/
def execMoveTimerExpiry (i : Index) (s : State) : Result := onRoundStart (whenDue (phaseDue i .moving) (moveExpired i)) s

/-- ARRIVAL_TIMER_EXPIRY (R119). -/
def execArrivalTimerExpiry (i : Index) (s : State) : Result :=
  onRoundStart (whenDue (phaseDue i .arriving) (arrivalExpired i)) s

/-- CONFIRM_TIMER_EXPIRY (R40). -/
def execConfirmTimerExpiry (i : Index) (s : State) : Result :=
  onRoundStart (whenDue (fun t => (t.entry i).confirmRunsOut) (confirmExpired i)) s

/-- A car's bar removed (R47). -/
def removeBar (car : CarNumber) (s : State) : State := { s with bars := s.bars.filter fun b => b.car != car }

/-- Whether a car's bar runs out at the round start that is due (R47). -/
def barDue (car : CarNumber) (s : State) : Bool := s.bars.any fun b => b.car == car && decide (b.rounds ≤ 1)

/-- BAR_EXPIRY (R47). -/
def execBarExpiry (car : CarNumber) (s : State) : Result := onRoundStart (whenDue (barDue car) (removeBar car)) s

/-- The entry whose list holds a command number, and the command (R90). -/
def State.findCommand (s : State) (n : Half) : Option (Index × Command) :=
  indices.findSome? fun i => ((s.entry i).commands.find? fun k => k.number == n).map fun k => (i, k)

/-- A command removed from an entry's list (R88). -/
def Entry.without (n : Half) (e : Entry) : Entry := { e with commands := e.commands.filter fun k => k.number != n }

/-- Whether a command's age reaches its expiry at the round start that is due, and its entry is not freed by a phase timer at
that same round start (R97). -/
def commandDue (n : Half) (s : State) : Bool :=
  match s.findCommand n with
  | none => false
  | some (i, k) =>
    k.expiry != 0 && decide (k.expiry ≤ k.age + 1)
      && !((s.entry i).phaseRunsOut && ((s.entry i).state == .moving || (s.entry i).state == .arriving))

/-- A command removed by its expiry and reported (R97). -/
def expireCommand (n : Half) (s : State) : State :=
  match s.findCommand n with
  | none => s
  | some (i, k) => notify (.expired n (s.entry i).car k.sent) (s.updateEntry i (Entry.without n))

/-- COMMAND_EXPIRY (R97). -/
def execCommandExpiry (n : Half) (s : State) : Result := onRoundStart (whenDue (commandDue n) (expireCommand n)) s

/-- BROADCAST_DONE (R103): the head broadcast's last beacon has begun. -/
def execBroadcastDone (s : State) : Result := onRoundStart id s

/-! ### The end of a round (R14) -/

/-- A round completes: P has elapsed since its beacon began (R14). -/
def completeRound (s : State) : State :=
  if s.engine.inProgress then
    let e := { s.engine with inProgress := false, radio := none }
    match e.state with
    | .stopping => enterStopped { s with engine := e }
    | .stepping => notify (.roundDone e.round false) { s with engine := { e with state := .paused } }
    | _ => { s with engine := e }
  else s

/-- ROUND_COMPLETE (R14). -/
def execRoundComplete (s : State) : Result := onEvent completeRound s

/-! ### SILENT (R144) -/

/-- The quiet controller enters SILENT: transmitter off, QUIET_ACK asserted, timer 0, QUIET_BEGIN (R144). -/
def enterSilent (s : State) : State :=
  notify (.quietBegin s.quiet.lineClaim s.quiet.hostClaim)
    { s with
      engine := { s.engine with radio := none }
      quiet := { s.quiet with state := .silent, timer := 0, ack := true } }

/-! ### A slot (R24, R91 to R93, R156, R157) -/

/-- The bands of a BANDS pattern: each but the last takes min(b, the bytes unfilled), the last all that are (R156). -/
def fillBands (b : Nat) : List Byte → Nat → List Byte
  | [], _ => []
  | [v], left => List.replicate left v
  | v :: vs, left => List.replicate (min b left) v ++ fillBands b vs (left - b)

/-- The survey pattern of a length (R156, R157). -/
def PatternGroup.make (g : PatternGroup) (n : Nat) : List Byte :=
  match g.kind with
  | .bands => fillBands g.bandSize (g.bytes.take g.bands) n
  | .fixed => (List.range n).map fun i => g.bytes.getD (i % g.block) 0

/-- Lp, the pattern length (R156). -/
def patternLength (pd pu : Code) : Nat := min (codeBytes pd) (codeBytes pu)

/-- The content of a downlink segment, with the entry as sending it leaves it (R91, R93). -/
structure Segment where
  kind : Nat
  payload : List Byte
  seq : Seq
  rep : Bool
  sent : SentContent
  entry : Entry
  deriving DecidableEq, Repr

/-- The payload of a MOVE directive: peer, channel, index, class (R111). -/
def Entry.movePayload (e : Entry) : List Byte :=
  match e.target with
  | none => [nodeByte e.peer, 0, 0, 0]
  | some t => [nodeByte e.peer, t.channel, t.index, byteOf t.cls.code]

def Segment.idle (e : Entry) : Segment :=
  { kind := 61, payload := [], seq := 0, rep := false, sent := .nothing, entry := e }

/-- The command pool's choice for a slot: MOVE, PATTERN, the head command again, the head command anew, or IDLE (R91). -/
def chooseSegment (pd : Code) (g : PatternGroup) (e : Entry) : Segment :=
  if e.state = .moving then
    { kind := 62, payload := e.movePayload, seq := 0, rep := false, sent := .nothing, entry := e }
  else if e.survey then
    { kind := 63, payload := g.make (patternLength pd e.granted), seq := 0, rep := false
      sent := .pattern (g.make (patternLength pd e.granted)), entry := e }
  else
    match e.commands with
    | [] => Segment.idle e
    | k :: ks =>
      match k.seqUsed with
      | some q =>
        { kind := k.kind.toNat, payload := k.payload, seq := q, rep := true, sent := .command k.number, entry := e }
      | none =>
        if e.pace = 0 then
          { kind := k.kind.toNat, payload := k.payload, seq := e.nextSeq, rep := false, sent := .command k.number
            entry := { e with nextSeq := e.nextSeq + 1, commands := { k with seqUsed := some e.nextSeq, sent := true } :: ks } }
        else Segment.idle e

def Plan.updateAt (k : Nat) (f : Position → Position) (p : Plan) : Plan := { p with positions := p.positions.modify k f }

def State.withPlan (s : State) (p : Plan) : State := { s with engine := { s.engine with plan := p } }

/-- The segment on the air, at the position's class from its start offset (R24, R92). -/
def Segment.burst (g : Segment) (p : Position) : RadioBurst where
  bytes := segmentBytes p.car g.kind g.payload g.seq g.rep g.entry.lastSeq
  cls := p.cls
  begins := p.start
  ends := p.start + burstAirtime p.cls (8 + g.payload.length)

/-- The slot of a plan position begins: its segment is chosen and sent, or at a stale position the transmitter stays silent
(R19, R24). -/
def beginSlot (k : Nat) (s : State) : State :=
  match s.engine.plan.positions[k]? with
  | none => s
  | some p =>
    if s.engine.inProgress = false ∨ p.started ∨ p.closed then s
    else if p.stale then s.withPlan (s.engine.plan.updateAt k fun q => { q with started := true })
    else
      let g := chooseSegment s.image.round.pd s.live.pattern (s.entry p.index)
      let s' := s.setEntry p.index g.entry
      { s' with engine := { s'.engine with
          plan := s'.engine.plan.updateAt k fun q => { q with started := true, sent := g.sent }
          radio := some (g.burst p) } }

/-- SLOT_START (R24). -/
def execSlotStart (k : Fin 24) (s : State) : Result := onEvent (beginSlot k.val) s

end Sys2Proof.Machine
end

