-- ==== Sys2Proof/Machine/Link.lean ====
section
/-!
DEFINITION. The link assessor (03): sample, score, class proposal, neighbour tracking, the handover trigger and the start of
a handover (R108).
-/
namespace Sys2Proof.Machine

/-- The sample of a window: of a heard one 4 × margin − 8 × corrections limited to 0 to 255, of any other 0 (R53). Margin and
corrections come limited (R52). -/
def sampleOf : Option (Nat × Nat) → Nat
  | none => 0
  | some (m, c) => min (4 * m - 8 * c) 255

/-- A score moved toward a sample by the ceiling of one eighth of the gap (R54). -/
def moveScore (score sample : Nat) : Nat :=
  if score ≤ sample then score + (sample - score + 7) / 8 else score - (score - sample + 7) / 8

/-- The score of a JOINING, ACTIVE or OFFERING entry updated (R51, R54). -/
def Entry.updateScore (sample : Nat) (e : Entry) : Entry := { e with score := moveScore e.score sample }

/-- The up count after a high update: it rises by 1 to the promote rounds setting at most (R56). -/
def raisedUp (l : LinkGroup) (up : Nat) : Nat := if up < l.promoteRounds then up + 1 else l.promoteRounds

/-- The wanted class and the up count of an ACTIVE entry set afresh from its updated score (R55, R56). -/
def Entry.propose (l : LinkGroup) (e : Entry) : Entry :=
  if e.score < l.demote then { e with wanted := some e.rate.slower, upCount := 0 }
  else if l.promote ≤ e.score then
    if raisedUp l e.upCount < l.promoteRounds then { e with wanted := some e.rate, upCount := raisedUp l e.upCount }
    else if e.rate = .a then { e with wanted := some .a, upCount := l.promoteRounds }
    else { e with wanted := some e.rate.faster, upCount := 0 }
  else { e with wanted := some e.rate, upCount := 0 }

/-- The report of a heard burst for a configured neighbour, with its neighbour sample; none for any other report and for no
report (R59). -/
def State.neighbourReport (s : State) (b : Burst) : Option (Byte × Nat) :=
  if b.nbrValid ∧ (s.portFacing b.nbrNode).isSome then some (b.nbrNode, 4 * limitMargin b.nbrMargin) else none

/-- The candidate, N and lead count after a heard window's report, with the lead test made (R60, R61). -/
def Entry.track (l : LinkGroup) (report : Option (Byte × Nat)) (e : Entry) : Entry :=
  match report with
  | none => { e with candidate := none, nbrScore := 0, leadCount := 0 }
  | some (n, sample) =>
    let same := e.candidate = some n
    let score := if same then moveScore e.nbrScore sample else sample
    let lead := if same then e.leadCount else 0
    { e with candidate := some n, nbrScore := score, leadCount := if e.score + l.hysteresis ≤ score then lead + 1 else 0 }

/-- The OFFER of an entry (R105, R108). Bits 1 to 7 of its survey flag are sent as 0 (DESIGN CHOICE, log 36). -/
def Entry.offerBody (e : Entry) : OfferBody where
  car := e.car
  cls := byteOf e.rate.code
  allowance := e.granted.zeroExtend 8
  survey := flagByte e.survey
  score := byteOf e.nbrScore
  lastSeq := seqByte e.lastSeq
  nextSeq := e.nextSeq.zeroExtend 8

/-- Whether a handover toward a port can be started: the port UP, room in its handover out queue, and the engine neither
STOPPING nor STOPPED (R108). -/
def State.canOffer (s : State) (p : PortId) : Bool :=
  (s.port p).isUp && decide ((s.port p).handover.length < handoverCapacity)
    && !(s.engine.state == .stopping || s.engine.state == .stopped)

/-- The handover unit asked to start a handover of an entry toward its candidate (R108). -/
def requestHandover (i : Index) (s : State) : State :=
  let e := s.entry i
  let notStarted := s.countWith fun c => { c with notStarted := count16 c.notStarted }
  match e.candidate with
  | none => notStarted
  | some n =>
    match s.portFacing n with
    | none => notStarted
    | some p =>
      if s.canOffer p then
        notify (.handoverOffered e.car i n e.rate e.granted)
          ((sendHandover p n (.offer e.offerBody) s).setEntry i
            { e with state := .offering, peer := some n, phaseTimer := some s.live.handover.offerTimeout })
      else notStarted

/-- The handover trigger after a lead test (R62). -/
def triggerHandover (i : Index) (s : State) : State :=
  let e := s.entry i
  if s.live.link.leadRounds ≤ e.leadCount then
    if s.live.handover.enable then requestHandover i (s.setEntry i { e with leadCount := 0 })
    else s.setEntry i { e with leadCount := s.live.link.leadRounds }
  else s

/-- The link assessor's work for one window of an entry, by the state it holds: the heard burst, if there was one, with its
limited margin and corrections (R51). -/
def assessWindow (i : Index) (heard : Option (Burst × Nat × Nat)) (s : State) : State :=
  let e := s.entry i
  let sample := sampleOf (heard.map Prod.snd)
  match e.state with
  | .joining | .offering => s.setEntry i (e.updateScore sample)
  | .active =>
    let e1 := (e.updateScore sample).propose s.live.link
    match heard with
    | none => s.setEntry i e1
    | some (b, _) =>
      let r := s.neighbourReport b
      let s' := s.setEntry i (e1.track s.live.link r)
      if r.isSome then triggerHandover i s' else s'
  | _ => s

end Sys2Proof.Machine
end

