-- ==== Sys2Proof/Machine/Uplink.lean ====
section
/-!
DEFINITION. The uplink path (04) with the survey comparison (R158, R159), the pool's reading of acknowledgements (R94, R95)
and the roster's reading of outcomes (R42 to R45, R118): the close of an uplink window in the stages of R72.
-/
namespace Sys2Proof.Machine

/-! ### Classifying a window (R67 to R71) -/

inductive WindowOutcome where
  | nothing
  | checkFailed
  | wrongCar
  | lengthError (b : Burst)
  | idle (b : Burst)
  | repeated (b : Burst)
  | accepted (b : Burst)
  deriving DecidableEq, Repr

/-- The checks of R67 in their order, for a position and the entry at its index. -/
def classify (p : Position) (e : Entry) : UplinkResult → WindowOutcome
  | .nothing => .nothing
  | .checkFailed => .checkFailed
  | .passed _ _ bytes =>
    match Burst.read bytes with
    | none => .checkFailed
    | some b =>
      if p.stale ∨ b.car ≠ p.car then .wrongCar
      else if codeBytes e.granted < b.length ∨ b.length ≠ b.received then .lengthError b
      else if b.length = 0 ∨ b.kind = kindJoin then .idle b
      else if e.lastSeq = some b.seq then .repeated b
      else .accepted b

/-- The burst of a heard window (R42, R67). -/
def WindowOutcome.heard : WindowOutcome → Option Burst
  | .lengthError b | .idle b | .repeated b | .accepted b => some b
  | _ => none

/-- The limited margin and corrections of a result (R52). -/
def resultFigures : UplinkResult → Nat × Nat
  | .passed m c _ => (limitMargin m, limitCorrections c)
  | _ => (0, 0)

/-- The node counters after a window (R67, R149). -/
def NodeCounters.window (o : WindowOutcome) (corrections : Nat) (c : NodeCounters) : NodeCounters :=
  let c :=
    if o.heard.isSome then
      { c with burstsGood := count16 c.burstsGood
               corrected := if 0 < corrections then count16 c.corrected else c.corrected }
    else c
  match o with
  | .checkFailed => { c with checkFailures := count16 c.checkFailures }
  | .wrongCar => { c with wrongCar := count16 c.wrongCar }
  | .lengthError _ => { c with lengthErrors := count16 c.lengthErrors }
  | .repeated _ => { c with repeats := count16 c.repeats }
  | _ => c

/-- The per-car counters after a window of a position that is not stale (R67, R150). -/
def Entry.countWindow (o : WindowOutcome) (corrections : Nat) (e : Entry) : Entry :=
  match o with
  | .checkFailed => { e with failed := count16 e.failed }
  | .nothing | .wrongCar => e
  | _ =>
    { e with good := count16 e.good, corrected := if 0 < corrections then count16 e.corrected else e.corrected }

/-! ### Routing (R73 to R75) -/

/-- Whether a filter entry matches a burst (R74). -/
def FilterEntry.matches (f : FilterEntry) (kind : Nat) (car : CarNumber) : Bool :=
  f.enable && decide (f.low ≤ kind) && decide (kind ≤ f.high) && (f.car == 0 || f.car == car)

/-- The destination of a burst: the first entry that matches, or queue 0 (R74). -/
def destination (fs : List FilterEntry) (kind : Nat) (car : CarNumber) : Destination :=
  match fs.find? fun f => f.matches kind car with
  | none => .queue 0
  | some f => f.dest

/-- The record made from an accepted burst (R79). -/
def burstRecord (node : Byte) (round : RoundNumber) (p : Position) (b : Burst) (f : Nat × Nat) : Record where
  car := b.car
  kind := byteOf b.kind
  received := b.length
  stamp := roundStamp round
  offset := p.start
  margin := byteOf f.1
  corrections := byteOf f.2
  truncated := false
  relayed := false
  survey := false
  origin := node
  payload := b.payload

/-- The PASS body made from an accepted burst (R134). -/
def burstPass (node : Byte) (round : RoundNumber) (b : Burst) (f : Nat × Nat) : PassBody where
  origin := node
  car := b.car
  kind := byteOf b.kind
  stamp := roundStamp round
  margin := byteOf f.1
  corrections := byteOf f.2
  payload := b.payload

/-- An accepted burst carried to its destination (R75). -/
def routeBurst (round : RoundNumber) (p : Position) (b : Burst) (f : Nat × Nat) (s : State) : State :=
  let r := burstRecord s.image.node.node round p b f
  match destination s.image.filter b.kind b.car with
  | .queue q => deposit q r s
  | .discard => s
  | .passAlong =>
    match s.portalPort with
    | some port => sendPass port 0 (burstPass s.image.node.node round b f) s
    | none => deposit s.image.queues.portal r s

/-! ### The survey comparison (R158, R159) -/

/-- The bit places in which two bytes differ (R158). -/
def bitErrors (x y : Byte) : Nat := ((List.range 8).filter fun i => (x ^^^ y).getLsbD i).length

/-- The byte errors and bit errors of an echo against a pattern (R158). -/
def compareEcho : List Byte → List Byte → Nat × Nat
  | [], _ => (0, 0)
  | _ :: ps, [] => let r := compareEcho ps []; (r.1 + 1, r.2 + 8)
  | p :: ps, e :: es =>
    let r := compareEcho ps es
    if p = e then r else (r.1 + 1, r.2 + bitErrors p e)

/-- The survey report of a comparison (R159). -/
def surveyRecord (node : Byte) (round : RoundNumber) (p : Position) (pattern echo : List Byte) (f : Nat × Nat) : Record where
  car := p.car
  kind := byteOf kindEcho
  received := 5
  stamp := roundStamp round
  offset := p.start
  margin := byteOf f.1
  corrections := byteOf f.2
  truncated := false
  relayed := false
  survey := true
  origin := node
  payload :=
    [byteOf pattern.length, byteOf echo.length, byteOf (compareEcho pattern echo).1] ++ halfBytes (compareEcho pattern echo).2

/-- The survey generator told an echo, or none, for a window: a report when the entry's survey flag is set and the slot's
segment carried a pattern (R73, R158, R159). -/
def surveyReport (round : RoundNumber) (p : Position) (echo : List Byte) (f : Nat × Nat) (s : State) : State :=
  match p.sent with
  | .pattern v =>
    if (s.entry p.index).survey then
      deposit s.image.queues.survey (surveyRecord s.image.node.node round p v echo f) s
    else s
  | _ => s

/-- The survey generator told that no echo was accepted (R73, R142). -/
def surveyNoEcho (round : RoundNumber) (p : Position) (margin corrections : Nat) (s : State) : State :=
  surveyReport round p [] (margin, corrections) s

/-- Stage 2 of R72 for a position that is not stale: an accepted burst's sequence is stored, its echo compared or its payload
routed; a surveyed car's window without an echo is reported so (R71, R73). -/
def stageRoute (round : RoundNumber) (p : Position) (o : WindowOutcome) (f : Nat × Nat) (s : State) : State :=
  match o with
  | .accepted b =>
    let s' := s.updateEntry p.index fun e => { e with lastSeq := some b.seq }
    if b.kind = kindEcho ∧ (s.entry p.index).survey then surveyReport round p b.payload f s'
    else surveyNoEcho round p f.1 f.2 (routeBurst round p b f s')
  | _ => if o.heard.isSome then surveyNoEcho round p f.1 f.2 s else surveyNoEcho round p 0 0 s

/-! ### Stage 4: the command pool (R94, R95) -/

/-- A command acknowledged in the slot that carried it (R94). -/
def deliverCommand (i : Index) (k : Command) (s : State) : State :=
  let e := s.entry i
  let s' := s.setEntry i { e.without k.number with pace := s.live.downlink.pacing }
  if k.notify then notify (.delivered k.number e.car (k.attempts + 1)) s' else s'

/-- A failed send: one more attempt, or at the retry limit the command's removal (R95). -/
def failSend (i : Index) (k : Command) (s : State) : State :=
  let e := s.entry i
  if s.live.downlink.retryLimit ≤ k.attempts + 1 then
    notify (.undelivered k.number e.car .noAck k.sent)
      (s.setEntry i { e.without k.number with pace := s.live.downlink.pacing })
  else
    s.setEntry i { e with commands := e.commands.map fun c =>
      if c.number = k.number then { c with attempts := c.attempts + 1 } else c }

/-- Stage 4 of R72: the downlink ack of the window's heard burst, if it carried a valid one. It acts on the command that the slot
carried, if that is still in the pool (R94): a slot whose command is gone names it no more once another has its number
(`addCommand`). -/
def stagePool (p : Position) (ack : Option Seq) (s : State) : State :=
  match p.sent with
  | .command n =>
    match (s.entry p.index).commands.find? fun k => k.number == n with
    | none => s
    | some k => if ack.isSome ∧ ack = k.seqUsed then deliverCommand p.index k s else failSend p.index k s
  | _ => s

/-- The downlink ack a heard burst reports (R94). -/
def Burst.ack (b : Burst) : Option Seq := if b.dlAckValid then some b.dlAck else none

/-! ### Stage 5: the roster (R42, R44, R45, R118) -/

/-- The fields every heard window sets (R42). -/
def Entry.hearNow (round : RoundNumber) (e : Entry) : Entry := { e with missed := 0, lastHeard := round, heard := true }

/-- A heard window at stage 5: a JOINING entry becomes ACTIVE with JOINED (R42), an ARRIVING one ACTIVE with DONE to the
former peer and ARRIVED (R118). -/
def heardWindow (round : RoundNumber) (i : Index) (s : State) : State :=
  let e := (s.entry i).hearNow round
  match e.state with
  | .joining => notify (.joined e.car i e.rate e.granted) (s.setEntry i { e with state := .active })
  | .arriving =>
    notify (.arrived e.car i (nodeByte e.peer) e.rate e.granted)
      (sendToPeer e.peer (.done e.car) (s.setEntry i { e with state := .active, peer := none, phaseTimer := none }))
  | _ => s.setEntry i e

/-- The reason of DEPARTED at the miss limit (R45). -/
def Entry.departReason (e : Entry) : DepartReason := if e.state = .joining ∧ e.heard = false then .neverHeard else .silent

/-- An entry freed at the miss limit: DEPARTED, and CANCEL to the peer from OFFERING (R45). -/
def departEntry (i : Index) (s : State) : State :=
  let e := s.entry i
  let s' := freeEntry i (some (.departed e.car i e.departReason e.lastHeard)) .departed s
  if e.state = .offering then sendToPeer e.peer (.cancel e.car) s' else s'

/-- A missed window at stage 5: charged in JOINING, ACTIVE and OFFERING outside a grace round; at the miss limit the entry is
freed (R44, R45). -/
def missedWindow (grace : Bool) (i : Index) (s : State) : State :=
  let e := s.entry i
  if e.state.charged ∧ grace = false then
    let s' := s.setEntry i { e with missed := e.missed + 1 }
    if s.live.roster.missLimit ≤ e.missed + 1 then departEntry i s' else s'
  else s

/-! ### The close of a window (R72) -/

/-- The five stages of R72 for a position of a plan. For a stale position only the node is counted (R19, R67). -/
def closeWindow (round : RoundNumber) (grace : Bool) (p : Position) (r : UplinkResult) (s : State) : State :=
  let o := classify p (s.entry p.index) r
  let f := resultFigures r
  let s1 := s.countWith (NodeCounters.window o f.2)
  if p.stale then s1
  else
    let s2 := stageRoute round p o f (s1.updateEntry p.index (Entry.countWindow o f.2))
    let s3 := assessWindow p.index (o.heard.map fun b => (b, f)) s2
    let s4 := stagePool p (o.heard.bind Burst.ack) s3
    match o.heard with
    | some _ => heardWindow round p.index s4
    | none => missedWindow grace p.index s4

/-- The plan of the round begun so many rounds before the last (R24; log 18). -/
def Engine.planOf (e : Engine) : Fin 3 → Plan
  | 0 => e.plan
  | 1 => e.prev
  | 2 => e.older

def State.withPlanOf (s : State) (ago : Fin 3) (p : Plan) : State :=
  { s with engine := match ago with
    | 0 => { s.engine with plan := p }
    | 1 => { s.engine with prev := p }
    | 2 => { s.engine with older := p } }

/-- The uplink window of a position of a plan closes, when it is yet to close. -/
def closeAt (ago : Fin 3) (k : Nat) (r : UplinkResult) (s : State) : State :=
  let p := s.engine.planOf ago
  match p.positions[k]? with
  | none => s
  | some q =>
    if q.closed then s
    else closeWindow p.round p.grace q r (s.withPlanOf ago (p.updateAt k fun q => { q with closed := true }))

/-- UPLINK_WINDOW_CLOSE (R72): a window of the round in progress or last begun, or one of an earlier round whose burst outlasted
that round (R23, R24, R142; log 18). -/
def execUplinkWindowClose (ago : Fin 3) (k : Fin 24) (r : UplinkResult) (s : State) : Result := onEvent (closeAt ago k.val r) s

/-- A burst outside every window while OPEN, or a second one in a window: discarded, not counted (R24, R66). -/
def strayBurst (s : State) : State := s

/-- STRAY_BURST (R24). -/
def execStrayBurst (s : State) : Result := onEvent strayBurst s

end Sys2Proof.Machine
end

