-- ==== Sys2Proof/Machine/Quiet.lean ====
section
/-!
DEFINITION. Blast quiet (08): QUIET, the line claim, the end of draining, breaches, the quiet timer.
-/
namespace Sys2Proof.Machine

/-! ### Abandoning a round (R23, R142) -/

/-- The offset at which a position's uplink window opens (R24). -/
def Position.opensAt (p : Position) : Nat := p.start + p.d + 5

/-- A window of the abandoned round at a claim: one in which a burst has begun stays to be closed; any other yet to close is
closed, and one that was open reports no echo for a surveyed car whose slot carried a pattern (R142). -/
def settleWindow (m : Moment) (k : Nat) (s : State) : State :=
  match s.engine.plan.positions[k]? with
  | none => s
  | some p =>
    if p.closed then s
    else if p.opensAt ≤ m.offset ∧ (m.bursts.any fun j => j.val == k) then s
    else
      let s' := s.withPlan (s.engine.plan.updateAt k fun q => { q with closed := true })
      if p.opensAt ≤ m.offset ∧ p.stale = false then surveyNoEcho s.engine.plan.round p 0 0 s' else s'

/-- The windows of the round in progress settled at a claim (R142). -/
def settleWindows (m : Moment) (s : State) : State :=
  let s' := (List.range s.engine.plan.positions.length).foldl (fun t k => settleWindow m k t) s
  let p := s'.engine.plan
  s'.withPlan { p with joins := p.joins.filter fun j => m.joins.contains j && decide (p.joinStart + 80 * j.val ≤ m.offset) }

/-- The round in progress abandoned: its windows settled, then the engine acts on its state (R23). -/
def abandonRound (m : Moment) (s : State) : State :=
  let s' := settleWindows m s
  let e := s'.engine
  match e.state with
  | .stopping => enterStopped { s' with engine := { e with inProgress := false } }
  | .stepping => notify (.roundDone e.round true) { s' with engine := { e with inProgress := false, state := .paused } }
  | _ => { s' with engine := { e with inProgress := false } }

/-! ### Claims (R139, R141) -/

/-- Whether a beacon or a downlink segment is being sent at an offset of the round in progress (R141). -/
def State.sending (s : State) (offset : Nat) : Bool :=
  s.engine.inProgress && (match s.engine.radio with | none => false | some b => decide (offset < b.ends))

/-- A claim has arrived and is recorded; while the controller is OPEN it ends the radio's use by the round engine (R141). -/
def claimArrived (m : Moment) (s : State) : State :=
  if s.quiet.state ≠ .opened then s
  else
    let s1 := { s with engine := { s.engine with resumePending := true } }
    let s2 := if s.engine.inProgress then abandonRound m s1 else s1
    if s.sending m.offset then { s2 with quiet := { s2.quiet with state := .draining } } else enterSilent s2

/-- A claim has been withdrawn; with none left in SILENT, quiet ends (R145). -/
def claimWithdrawn (s : State) : State :=
  if s.quiet.state = .silent ∧ s.quiet.claimed = false then
    notify (.quietEnd s.quiet.timer) { s with quiet := { s.quiet with state := .opened, ack := false } }
  else s

/-- The host claim set or cleared (R139). -/
def setHostClaim (on : Bool) (m : Moment) (s : State) : State :=
  if s.quiet.hostClaim = on then s
  else
    let s' := { s with quiet := { s.quiet with hostClaim := on } }
    if on then claimArrived m s' else claimWithdrawn s'

/-- The fields of the QUIET reply (R140); a claim held is 1, one not held 0 (DESIGN CHOICE, log 37). -/
def Quiet.replyBytes (q : Quiet) : List Byte :=
  [byteOf q.state.code, flagByte q.lineClaim, flagByte q.hostClaim] ++ halfBytes q.timer

/-- QUIET (R140): 1 is on, 0 off (DESIGN CHOICE, log 37); the reply gives the state after the request has been taken. -/
def decideQuiet (value : Byte) (m : Moment) (s : State) : Decision :=
  if value = 0 ∨ value = 1 then
    { status := .ok, body := (setHostClaim (value == 1) m s).quiet.replyBytes, effect := setHostClaim (value == 1) m }
  else .refuse .badValue

def execQuiet (tag value : Byte) (m : Moment) (s : State) : Result := onRequest (.quiet tag value m) (decideQuiet value m) s

/-- The line claim arrives (R139, R141). -/
def lineArrives (m : Moment) (s : State) : State :=
  if s.quiet.lineClaim then s else claimArrived m { s with quiet := { s.quiet with lineClaim := true } }

/-- LINE_CLAIM_ARRIVES (R141): QUIET_REQ asserted for 1 ms. -/
def execLineClaimArrives (m : Moment) (s : State) : Result := onEvent (lineArrives m) s

/-- The line claim is withdrawn (R139, R145). -/
def lineWithdrawn (s : State) : State :=
  if s.quiet.lineClaim then claimWithdrawn { s with quiet := { s.quiet with lineClaim := false } } else s

/-- LINE_CLAIM_WITHDRAWN (R145): QUIET_REQ deasserted for 1 ms. -/
def execLineClaimWithdrawn (s : State) : Result := onEvent lineWithdrawn s

/-- The end of the transmission that was draining (R143). -/
def drained (s : State) : State :=
  if s.quiet.state = .draining then
    let s' := { s with engine := { s.engine with radio := none } }
    if s.quiet.claimed then enterSilent s' else { s' with quiet := { s'.quiet with state := .opened } }
  else s

/-- DRAIN_END (R143). -/
def execDrainEnd (s : State) : Result := onEvent drained s

/-- A breach: counted and reported with the car number when the check passed, else 0 (R147). The round is the last one begun when
the row is taken (DESIGN CHOICE, log 31). -/
def breach (car : Option CarNumber) (silent : Bool) (s : State) : State :=
  notify (.quietBreach (car.getD 0) (if silent then .silent else .draining) s.engine.round)
    (s.countWith fun c => { c with breaches := count16 c.breaches })

/-- QUIET_BREACH (R147). -/
def execQuietBreach (car : Option CarNumber) (silent : Bool) (s : State) : Result := onEvent (breach car silent) s

/-- A completed period of 100 ms in SILENT (R144). -/
def tickQuiet (s : State) : State :=
  if s.quiet.state = .silent then { s with quiet := { s.quiet with timer := saturate 65535 s.quiet.timer } } else s

/-- QUIET_TIMER_TICK (R144). -/
def execQuietTimerTick (s : State) : Result := onEvent tickQuiet s

end Sys2Proof.Machine
end

