-- ==== Sys2Proof/Machine/Roster.lean ====
section
/-!
DEFINITION. The car roster's commands (02): the close of a join window, ROSTER, ADMIT, DENY, EVICT, SET_ORDER, and SURVEY
(R154).
-/
namespace Sys2Proof.Machine

/-! ### Admission (R36 to R38) -/

/-- A slotted entry as an admission sets it up (R36, R57). -/
def admittedEntry (car : CarNumber) (code : Code) (cls : RateClass) (sample : Nat) (heardAt : RoundNumber) : Entry :=
  { Entry.vacant with
    state := .joining, car := car, granted := code, cls := some cls, wanted := some cls, score := sample, lastHeard := heardAt }

/-- A car admitted at an index: its entry set up and appended to the order table, its answer queued (step 4 of R36). -/
def admitAt (i : Index) (e : Entry) (s : State) : State :=
  let s' := s.slotIn i e
  addAnswer (s'.placeAnswer i) s'

/-- A join in AUTO mode from a car not on the roster (R36). -/
def autoAdmit (round : RoundNumber) (j : JoinBody) (s : State) : State :=
  let sample := joinSampleOf j.margin
  let cls := initialClass s.live.link sample
  match s.firstFree with
  | none => addAnswer { car := j.car, result := .denial .noRoom } s
  | some i =>
    match s.grant j.requested cls with
    | none => addAnswer { car := j.car, result := .denial .noAirtime } s
    | some code => admitAt i (admittedEntry j.car code cls sample round) s

/-- A join in CONFIRM mode from a car not on the roster (R37). -/
def askConfirm (round : RoundNumber) (j : JoinBody) (s : State) : State :=
  match s.firstFree with
  | none => addAnswer { car := j.car, result := .denial .noRoom } s
  | some i =>
    notify (.joinAsked j.car i j.requested (joinSampleOf j.margin) j.carType j.build)
      (s.setEntry i
        { Entry.vacant with
          state := .pending, car := j.car, requested := j.requested, joinSample := joinSampleOf j.margin
          confirmTimer := s.live.roster.confirmTimeout, lastHeard := round })

/-! ### Resync (R34, R35, R63, R99) -/

/-- The command list after a resync: an outstanding head becomes waiting (R99). -/
def resyncCommands : List Command → List Command
  | [] => []
  | k :: ks => { k with seqUsed := none } :: ks

/-- An entry resynced (R34), with the assessor's resets (R63), the pool's (R99), and peer, phase timer and move target gone
(R35, R107). The last heard round is set, as for every join decided (R27). -/
def Entry.resync (round : RoundNumber) (e : Entry) : Entry :=
  { e with
    state := .joining, lastSeq := none, nextSeq := 0, missed := 0, lastHeard := round
    candidate := none, nbrScore := 0, leadCount := 0, upCount := 0
    peer := none, phaseTimer := none, target := none
    commands := resyncCommands e.commands }

/-- A resync, with its answer queued (R34). -/
def resyncAt (round : RoundNumber) (i : Index) (s : State) : State :=
  let s' := s.updateEntry i (Entry.resync round)
  addAnswer (s'.placeAnswer i) s'

/-- A handover abandoned by a join burst: CANCEL to the peer, then the resync (R35). -/
def abandonHandover (round : RoundNumber) (i : Index) (s : State) : State :=
  resyncAt round i (sendToPeer (s.entry i).peer (.cancel (s.entry i).car) s)

/-! ### The decision of a join (R32, R33) -/

/-- A join of a car that holds an entry, by its state (R33). -/
def joinKnown (round : RoundNumber) (i : Index) (s : State) : State :=
  match (s.entry i).state with
  | .pending => s.updateEntry i fun e => { e with lastHeard := round }
  | .arriving =>
    let s' := s.updateEntry i fun e => { e with lastHeard := round }
    addAnswer (s'.placeAnswer i) s'
  | .joining | .active => resyncAt round i s
  | .offering | .moving => abandonHandover round i s
  | .free => s

/-- A join of a car not on the roster, by the admission mode in force (R33). -/
def joinNew (round : RoundNumber) (j : JoinBody) (s : State) : State :=
  match s.live.roster.admission with
  | .auto => autoAdmit round j s
  | .confirm => askConfirm round j s

/-- A decoded join decided by the first line of R33 that applies. -/
def decideJoin (round : RoundNumber) (j : JoinBody) (s : State) : State :=
  if s.bars.any fun b => b.car == j.car then s.countWith fun c => { c with joinsBarred := count16 c.joinsBarred }
  else if s.answerWaits j.car then s
  else if answerCapacity ≤ s.answers.length then s.countWith fun c => { c with joinsDropped := count16 c.joinsDropped }
  else
    match s.findCar j.car with
    | some i => joinKnown round i s
    | none => joinNew round j s

/-- The modem's result for a join window sorted (R32). -/
def joinResult (round : RoundNumber) (r : JoinResult) (s : State) : State :=
  let collision := s.countWith fun c => { c with joinCollisions := count16 c.joinCollisions }
  match r with
  | .nothing => s
  | .undecodable => collision
  | .passed bytes =>
    match JoinBody.read bytes with
    | none => collision
    | some j => decideJoin round j (s.countWith fun c => { c with joinBursts := count16 c.joinBursts })

/-- A join window of a plan closes, when it is yet to close (R25). -/
def closeJoinAt (ago : Fin 3) (k : Fin 4) (r : JoinResult) (s : State) : State :=
  let p := s.engine.planOf ago
  if k ∈ p.joins then joinResult p.round r (s.withPlanOf ago { p with joins := p.joins.erase k }) else s

/-- JOIN_WINDOW_CLOSE (R32): of the round in progress or last begun, or of an earlier one whose burst outlasted it (R142;
log 18). -/
def execJoinWindowClose (ago : Fin 3) (k : Fin 4) (r : JoinResult) (s : State) : Result := onEvent (closeJoinAt ago k r) s

/-! ### Host requests on the roster (R31, R38, R39, R46, R49, R154) -/

/-- A request that names a car: car number 0 is refused BAD_VALUE (R29). -/
def forCar (car : CarNumber) (decide : State → Decision) (s : State) : Decision :=
  if car = 0 then .refuse .badValue else decide s

/-- ADMIT (R38). With the answer list full and the grant without a result it is refused QUEUE_FULL (DESIGN CHOICE, log 35). -/
def decideAdmit (car : CarNumber) (s : State) : Decision :=
  match s.findCar car with
  | none => .refuse .tooLate
  | some i =>
    let e := s.entry i
    let cls := initialClass s.live.link e.joinSample
    if e.state ≠ .pending then .refuse .badState
    else if answerCapacity ≤ s.answers.length ∨ s.answerWaits car then .refuse .queueFull
    else
      match s.grant e.requested cls with
      | none => .refuse .noAirtime
      | some code =>
        { status := .ok, body := [byteOf i.val, byteOf cls.code, byteOf code.toNat]
          effect := admitAt i (admittedEntry car code cls e.joinSample e.lastHeard) }

def execAdmit (tag : Byte) (car : CarNumber) (s : State) : Result := onRequest (.admitCar tag car) (forCar car (decideAdmit car)) s

/-- The effect of a DENY on a PENDING entry (R39). -/
def denyEntry (i : Index) (car : CarNumber) (bar : Nat) (s : State) : State :=
  addBar car bar (addAnswer { car := car, result := .denial .denied } (freeEntry i none .evicted s))

/-- DENY (R39). -/
def decideDeny (car : CarNumber) (bar : Nat) (s : State) : Decision :=
  match s.findCar car with
  | none => .refuse .tooLate
  | some i => if (s.entry i).state ≠ .pending then .refuse .badState else .accept (denyEntry i car bar)

def execDeny (tag : Byte) (car : CarNumber) (bar : Half) (s : State) : Result :=
  onRequest (.deny tag car bar) (forCar car (decideDeny car bar.toNat)) s

/-- The effect of an EVICT (R46): the entry freed, CANCEL from OFFERING or MOVING, a bar if asked. -/
def evictEntry (i : Index) (car : CarNumber) (bar : Nat) (s : State) : State :=
  let e := s.entry i
  let s' := freeEntry i none .evicted s
  addBar car bar (if e.state = .offering ∨ e.state = .moving then sendToPeer e.peer (.cancel car) s' else s')

/-- EVICT (R46). -/
def decideEvict (car : CarNumber) (bar : Nat) (s : State) : Decision :=
  match s.findCar car with
  | none => .refuse .unknownCar
  | some i => .accept (evictEntry i car bar)

def execEvict (tag : Byte) (car : CarNumber) (bar : Half) (s : State) : Result :=
  onRequest (.evict tag car bar) (forCar car (decideEvict car bar.toNat)) s

/-- The roster indices a list of bytes names; none when one is above 23 (R31). -/
def readIndices : List Byte → Option (List Index)
  | [] => some []
  | b :: bs => if h : b.toNat < 24 then (readIndices bs).map fun is => ⟨b.toNat, h⟩ :: is else none

/-- SET_ORDER (R31): the list is a permutation of the order table, or it is refused BAD_ORDER. -/
def decideSetOrder (list : List Byte) (s : State) : Decision :=
  match readIndices list with
  | none => .refuse .badOrder
  | some is => if is.isPerm s.order then .accept fun t => { t with order := is } else .refuse .badOrder

def execSetOrder (tag : Byte) (list : List Byte) (s : State) : Result := onRequest (.setOrder tag list) (decideSetOrder list) s

/-- SURVEY (R154): 1 is on, 0 off (DESIGN CHOICE, log 37). One out of range is answered BAD_VALUE whatever the car's entry
(DESIGN CHOICE, log 35). -/
def decideSurvey (car : CarNumber) (value : Byte) (s : State) : Decision :=
  if car = 0 ∨ (value ≠ 0 ∧ value ≠ 1) then .refuse .badValue
  else
    match s.findCar car with
    | none => .refuse .badState
    | some i =>
      if (s.entry i).state = .active then .accept fun t => t.updateEntry i fun e => { e with survey := value == 1 }
      else .refuse .badState

def execSurvey (tag : Byte) (car : CarNumber) (value : Byte) (s : State) : Result :=
  onRequest (.survey tag car value) (decideSurvey car value) s

/-- One entry as ROSTER ENTRIES gives it, by its state (R49, R180); its missed count and its command count take 1 byte each
(DESIGN CHOICE, log 32). -/
def Entry.rosterBytes (i : Index) (e : Entry) : List Byte :=
  match e.state with
  | .free => [byteOf i.val, 0]
  | .pending =>
    [byteOf i.val, byteOf e.state.code] ++ carBytes e.car ++ roundBytes e.lastHeard
      ++ [byteOf e.requested.toNat, byteOf e.joinSample, byteOf e.confirmTimer]
  | _ =>
    [byteOf i.val, byteOf e.state.code] ++ carBytes e.car ++ roundBytes e.lastHeard
      ++ [byteOf e.granted.toNat, byteOf e.rate.code, byteOf e.wantedRate.code, flagByte e.rateHeld, byteOf e.score,
          byteOf e.missed, flagByte e.survey]
      ++ e.peer.toList ++ (e.phaseTimer.map byteOf).toList ++ [byteOf e.commands.length]

/-- The entries ROSTER ENTRIES returns: up to 8 from the first index (R49). -/
def rosterWindow (first : Nat) : List Index := (indices.drop first).take 8

/-- A bar as ROSTER LISTS gives it (R49). R180 names no width for its rounds remaining: 2 bytes, as the bar count that set them
(DESIGN CHOICE, log 32). -/
def Bar.bytes (b : Bar) : List Byte := carBytes b.car ++ halfBytes b.rounds

/-- The fields of ROSTER LISTS (R49); the grace count takes 1 byte (DESIGN CHOICE, log 32). -/
def State.listsBytes (s : State) : List Byte :=
  counted (s.order.map fun i => byteOf i.val)
    ++ byteOf s.answers.length :: s.answers.flatMap Answer.bytes
    ++ byteOf s.bars.length :: s.bars.flatMap Bar.bytes
    ++ [byteOf s.live.roster.admission.code, byteOf s.grace]

/-- ROSTER (R49). -/
def decideRoster (part first : Byte) (s : State) : Decision :=
  if part = 0 then
    if first.toNat ≤ 23 then
      .answer .ok (byteOf (rosterWindow first.toNat).length
        :: (rosterWindow first.toNat).flatMap fun i => (s.entry i).rosterBytes i)
    else .refuse .badValue
  else if part = 1 then .answer .ok s.listsBytes
  else .refuse .badValue

def execRoster (tag part first : Byte) (s : State) : Result := onRequest (.roster tag part first) (decideRoster part first) s

end Sys2Proof.Machine
end

