-- ==== Sys2Proof/Machine/Pool.lean ====
section
/-!
DEFINITION. The command pool and the broadcast queue (05): SEND, WITHDRAW, BROADCAST.
-/
namespace Sys2Proof.Machine

/-! ### Numbers (R90, R102) -/

/-- The number after a number, from 1 to a top, wrapping to 1 (R90). -/
def numberAfter (top n : Nat) : Nat := if n < top then n + 1 else 1

/-- The first number from one on that is not in use, trying a given number of times (R90). -/
def firstUnused (top : Nat) (used : List Nat) : Nat → Nat → Nat
  | 0, n => n
  | k + 1, n => if n ∈ used then firstUnused top used k (numberAfter top n) else n

/-- The command numbers in use (R90). -/
def State.commandNumbers (s : State) : List Nat := indices.flatMap fun i => (s.entry i).commands.map fun k => k.number.toNat

/-- The number SEND gives: at most 64 are in use, so one of 65 is free (R90). -/
def State.newCommandNumber (s : State) : Nat := firstUnused 65535 s.commandNumbers 65 s.nextCommand.toNat

/-- The id BROADCAST gives (R102). -/
def State.newBroadcastId (s : State) : Nat :=
  firstUnused 255 (s.broadcasts.map fun b => b.id.toNat) 5 s.nextBroadcast.toNat

/-! ### SEND and WITHDRAW (R89, R98) -/

def poolCapacity : Nat := 64
def listCapacity : Nat := 8

/-- A command accepted by SEND: waiting, age and attempts 0 (R89). -/
def newCommand (number : Nat) (kind : Byte) (payload : List Byte) (expiry : Half) (notify : Byte) : Command where
  number := BitVec.ofNat 16 number
  kind := kind
  payload := payload
  expiry := expiry.toNat
  age := 0
  attempts := 0
  seqUsed := none
  sent := false
  notify := notify == 1

/-- The effect of a SEND that is accepted (R89, R90). A slot that carried an earlier command of the same number carried one that is
no longer in the pool, so its window close has nothing to say of the new one (R94). -/
def addCommand (i : Index) (k : Command) (s : State) : State :=
  { s.updateEntry i fun e => { e with commands := e.commands ++ [k] } with
    engine := s.engine.forgetSent k.number
    nextCommand := BitVec.ofNat 16 (numberAfter 65535 k.number.toNat) }

/-- SEND: the first line of R89 that applies. -/
def decideSend (car : CarNumber) (kind : Byte) (payload : List Byte) (expiry : Half) (flag : Byte) (s : State) : Decision :=
  if car = 0 ∨ 60 < kind.toNat ∨ (flag ≠ 0 ∧ flag ≠ 1) then .refuse .badValue
  else
    match s.findCar car with
    | none => .refuse .unknownCar
    | some i =>
      let e := s.entry i
      if e.state = .pending then .refuse .unknownCar
      else if e.state = .moving ∨ e.state = .arriving then .refuse .moving
      else if codeBytes s.image.round.pd < payload.length then .refuse .tooLong
      else if poolCapacity ≤ s.poolCount then .refuse .poolFull
      else if listCapacity ≤ e.commands.length then .refuse .carFull
      else
        { status := .ok, body := halfBytes s.newCommandNumber
          effect := addCommand i (newCommand s.newCommandNumber kind payload expiry flag) }

def execSend (tag : Byte) (car : CarNumber) (kind : Byte) (payload : List Byte) (expiry : Half) (flag : Byte) (s : State) :
    Result :=
  onRequest (.send tag car kind payload expiry flag) (decideSend car kind payload expiry flag) s

/-- WITHDRAW (R98). -/
def decideWithdraw (n : Half) (s : State) : Decision :=
  match s.findCommand n with
  | none => .refuse .notFound
  | some (i, k) =>
    { status := if k.sent then .sentOnce else .ok, body := [], effect := fun t => t.updateEntry i (Entry.without n) }

def execWithdraw (tag : Byte) (n : Half) (s : State) : Result := onRequest (.withdraw tag n) (decideWithdraw n) s

/-! ### BROADCAST (R102) -/

def broadcastCapacity : Nat := 4

/-- The effect of an accepted BROADCAST: at the tail, or at the head if urgent (R102). -/
def addBroadcast (b : Broadcast) (urgent : Bool) (s : State) : State :=
  { s with
    broadcasts := if urgent then b :: s.broadcasts else s.broadcasts ++ [b]
    nextBroadcast := byteOf (numberAfter 255 b.id.toNat) }

/-- BROADCAST (R102): the repeat count is limited to 1 to 8. R102 does not say which line decides when two apply: one out of range is
answered BAD_VALUE though the queue holds 4 (DESIGN CHOICE, log 35). -/
def decideBroadcast (payload : List Byte) (repeats urgent : Byte) (s : State) : Decision :=
  if payload.length = 0 ∨ 12 < payload.length ∨ (urgent ≠ 0 ∧ urgent ≠ 1) then .refuse .badValue
  else if broadcastCapacity ≤ s.broadcasts.length then .refuse .queueFull
  else
    { status := .ok, body := [byteOf s.newBroadcastId]
      effect := addBroadcast
        { id := byteOf s.newBroadcastId, payload := payload, repeats := min (max repeats.toNat 1) 8 } (urgent == 1) }

def execBroadcast (tag : Byte) (payload : List Byte) (repeats urgent : Byte) (s : State) : Result :=
  onRequest (.broadcast tag payload repeats urgent) (decideBroadcast payload repeats urgent) s

end Sys2Proof.Machine
end

