-- ==== Sys2Proof/Machine/Queues.lean ====
section
/-!
DEFINITION. Reading and emptying the receive queues (R83 to R85), and reading and clearing the counters (R151, R152).
-/
namespace Sys2Proof.Machine

/-! ### TAKE, PEEK, FLUSH -/

/-- A request that names a queue: a number above 3 is refused BAD_VALUE (4.5). -/
def forQueue (q : Byte) (decide : Fin 4 → State → Decision) (s : State) : Decision :=
  if h : q.toNat < 4 then decide ⟨q.toNat, h⟩ s else .refuse .badValue

/-- The room for records in one reply: L counts kind, tag and body and is at most 300, and five bytes of the body come before
the records (R83, R162, 12.4). -/
def recordRoom : Nat := 293

/-- The bytes of a record in a reply (R83). -/
def Record.size (r : Record) : Nat := 16 + r.payload.length

/-- The records, from the head, that fit in a room (R83). -/
def fitting : Nat → List Record → List Record
  | _, [] => []
  | room, r :: rs => if r.size ≤ room then r :: fitting (room - r.size) rs else []

/-- The records a TAKE returns (R83): the count is limited to 1 to 8. -/
def RxQueue.taken (n : Nat) (x : RxQueue) : List Record := fitting recordRoom (x.records.take (min (max n 1) 8))

/-- The fields of a TAKE or PEEK reply (12.4): queue, count left, lost count, number of records, records. -/
def queueReply (q : Fin 4) (left lost : Nat) (rs : List Record) : List Byte :=
  [byteOf q.val, byteOf left, byteOf lost, byteOf rs.length] ++ rs.flatMap (Record.bytes q)

/-- A queue without its first records; an overflow episode may end (R82, R83). -/
def dropRecords (q : Fin 4) (n : Nat) (s : State) : State :=
  s.setRx q (RxQueue.settleEpisode (s.queueSetting q).depth { s.rx q with records := (s.rx q).records.drop n })

/-- TAKE (R83). -/
def decideTake (count : Byte) (q : Fin 4) (s : State) : Decision :=
  let x := s.rx q
  let rs := x.taken count.toNat
  if x.records = [] then .answer .empty (queueReply q 0 x.lost [])
  else
    { status := .ok, body := queueReply q (x.records.length - rs.length) x.lost rs, effect := dropRecords q rs.length }

def execTake (tag queue count : Byte) (s : State) : Result := onRequest (.take tag queue count) (forQueue queue (decideTake count)) s

/-- PEEK (R84). -/
def decidePeek (q : Fin 4) (s : State) : Decision :=
  let x := s.rx q
  match x.records with
  | [] => .answer .empty (queueReply q 0 x.lost [])
  | r :: _ => .answer .ok (queueReply q x.records.length x.lost [r])

def execPeek (tag queue : Byte) (s : State) : Result := onRequest (.peek tag queue) (forQueue queue decidePeek) s

/-- FLUSH (R85): the reply gives the queue number, the count left and the lost count before the flush (4.5), and then the records
removed (DEDUCED, log 15). -/
def decideFlush (q : Fin 4) (s : State) : Decision :=
  let x := s.rx q
  { status := .ok, body := [byteOf q.val, 0, byteOf x.lost, byteOf x.records.length]
    effect := fun t => t.setRx q RxQueue.empty }

def execFlush (tag queue : Byte) (s : State) : Result := onRequest (.flush tag queue) (forQueue queue decideFlush) s

/-! ### COUNTS and CLEAR_COUNTS -/

/-- The node counters in the order of R149. -/
def NodeCounters.toList (c : NodeCounters) : List Nat :=
  [c.burstsGood, c.checkFailures, c.corrected, c.lengthErrors, c.wrongCar, c.repeats, c.joinBursts, c.joinCollisions,
    c.joinsBarred, c.joinsDropped, c.breaches, c.notStarted, c.stray, c.misaddressed]

/-- A port's counters in the order of R137. -/
def PortCounters.toList (c : PortCounters) : List Nat :=
  [c.framesOut, c.framesIn, c.bad, c.dropped, c.hopLimit, c.wrongDirection]

/-- The per-car counters and the assessor's fields of an entry (R151); its values are none or 0 unless it is slotted. The up count
and the lead count take 1 byte each (DESIGN CHOICE, log 32). -/
def Entry.countBytes (i : Index) (e : Entry) : List Byte :=
  [byteOf i.val, byteOf e.state.code] ++ carBytes e.car ++ halfBytes e.good ++ halfBytes e.failed ++ halfBytes e.corrected
    ++ [byteOf e.upCount, nodeByte e.candidate, byteOf e.nbrScore, byteOf e.leadCount]

/-- COUNTS (R151, R180): each reply carries its scope. -/
def decideCounts (scope index : Byte) (s : State) : Decision :=
  if scope = 0 then
    .answer .ok (scope :: (s.counters.toList ++ s.ports.up.counters.toList ++ s.ports.down.counters.toList).flatMap halfBytes)
  else if scope = 1 then
    if h : index.toNat < 24 then .answer .ok (scope :: (s.entry ⟨index.toNat, h⟩).countBytes ⟨index.toNat, h⟩)
    else .refuse .badValue
  else .refuse .badValue

def execCounts (tag scope index : Byte) (s : State) : Result := onRequest (.counts tag scope index) (decideCounts scope index) s

/-- The node counters and both ports' counters set to 0 (R152). -/
def clearNode (s : State) : State :=
  { s with
    counters := NodeCounters.zero
    ports := { up := { s.ports.up with counters := PortCounters.zero }
               down := { s.ports.down with counters := PortCounters.zero } } }

/-- The per-car counters of an entry set to 0 (R152). -/
def Entry.clearCounts (e : Entry) : Entry := { e with good := 0, failed := 0, corrected := 0 }

/-- CLEAR_COUNTS (R152). -/
def decideClearCounts (scope index : Byte) (_ : State) : Decision :=
  if scope = 0 then .accept clearNode
  else if scope = 1 then
    if h : index.toNat < 24 then .accept fun s => s.updateEntry ⟨index.toNat, h⟩ Entry.clearCounts else .refuse .badValue
  else if scope = 2 then .accept fun s => (clearNode s).mapEntries Entry.clearCounts
  else .refuse .badValue

def execClearCounts (tag scope index : Byte) (s : State) : Result :=
  onRequest (.clearCounts tag scope index) (decideClearCounts scope index) s

end Sys2Proof.Machine
end

