-- ==== Sys2Proof/Machine/Chain.lean ====
section
/-!
DEFINITION. The chain ports (07) and the handover frames received (06): screening, the decision of each kind, the relay of
PASS frames, the line state and the transmitter.
-/
namespace Sys2Proof.Machine

/-! ### Received frames (R106, R128 to R130) -/

/-- A frame that passed the frame check: its bytes bring a DOWN port UP, and it is counted in frames in (R128, R129). -/
def Port.frameIn (x : Port) : Port :=
  { x with isUp := true, receiver := .hunting, counters := { x.counters with framesIn := count16 x.counters.framesIn } }

/-- Whether a byte of the frame being received had a good stop bit (R128). A frame that comes as its row alone, its bytes not
having been taken one by one, is held to have one (DEDUCED, log 3). -/
def Receiver.heard : Receiver → Bool
  | .hunting => true
  | .inside bs => bs.any LineByte.stop

/-- A bad frame: discarded and counted, the receiver hunting again; its bytes bring a DOWN port UP, unless none of them had a
good stop bit (R128, R129). -/
def Port.badFrame (x : Port) : Port :=
  { x with isUp := x.isUp || x.receiver.heard, receiver := .hunting, counters := { x.counters with bad := count16 x.counters.bad } }

/-- A stray handover frame (R106, R122). -/
def strayFrame (s : State) : State := s.countWith fun c => { c with stray := count16 c.stray }

/-- A handover frame dropped as misaddressed (R106). -/
def misaddressedFrame (s : State) : State := s.countWith fun c => { c with misaddressed := count16 c.misaddressed }

/-- Whether a frame is from the neighbour configured at its port to this node; a port without a neighbour has none (R106). -/
def State.addressed (s : State) (p : PortId) (src dst : Byte) : Bool :=
  s.neighbour p != 0 && src == s.neighbour p && dst == s.image.node.node

/-- A handover frame received: counted in, screened for its addresses and then for its fields, of which `fields` is what was
read of them when all lie in range, and decided (R106). -/
def receiveHandover {α : Type} (p : PortId) (src dst : Byte) (fields : Option α) (decide : α → State → State) (s : State) : State :=
  let s' := s.updatePort p Port.frameIn
  if s'.addressed p src dst then
    match fields with
    | none => strayFrame s'
    | some a => decide a s'
  else misaddressedFrame s'

/-- A car number of a handover frame in range: not 0 (R106). -/
def carInRange (car : CarNumber) : Option CarNumber := if car = 0 then none else some car

/-- The entry of a car that is in one of two states with a peer (R122). -/
def State.inPlace (s : State) (car : CarNumber) (src : Byte) (x y : EntryState) : Option Index :=
  match s.findCar car with
  | none => none
  | some i => if ((s.entry i).state = x ∨ (s.entry i).state = y) ∧ (s.entry i).peer = some src then some i else none

/-! ### OFFER (R116, R117) -/

/-- The entry reserved for an offered car (R117). -/
def arrivingEntry (o : Offer) (src : Byte) (timeout : Nat) (round : RoundNumber) : Entry :=
  { Entry.vacant with
    state := .arriving, car := o.car, granted := o.code, cls := some o.cls, wanted := some o.cls, score := o.score
    lastSeq := o.lastSeq, nextSeq := o.nextSeq, survey := o.survey, peer := some src, phaseTimer := some timeout
    lastHeard := round }

/-- A REFUSE sent back on the port the OFFER arrived on (R116). -/
def refuseOffer (p : PortId) (src : Byte) (car : CarNumber) (r : RefuseReason) (s : State) : State :=
  sendHandover p src (.refuse car (byteOf r.code)) s

/-- An OFFER accepted: the lowest FREE entry reserved and slotted, ACCEPT queued (R117). -/
def reserve (p : PortId) (src : Byte) (o : Offer) (i : Index) (s : State) : State :=
  sendHandover p src
    (.accept { car := o.car, index := byteOf i.val, channel := s.image.node.channel, cls := byteOf o.cls.code })
    (s.slotIn i (arrivingEntry o src s.live.handover.arrivalTimeout s.engine.round))

/-- A screened OFFER decided by the first line of R116 that applies. -/
def decideOffer (p : PortId) (src : Byte) (o : Offer) (s : State) : State :=
  if s.engine.state = .stopped then refuseOffer p src o.car .stopped s
  else
    match s.findCar o.car with
    | some i =>
      match (s.entry i).state with
      | .arriving | .pending => refuseOffer p src o.car .busy s
      | _ => refuseOffer p src o.car .present s
    | none =>
      match s.firstFree with
      | none => refuseOffer p src o.car .full s
      | some i => if s.fitsOneMore o.code o.cls then reserve p src o i s else refuseOffer p src o.car .airtime s

/-- OFFER_RECEIVED (R116). -/
def execOfferReceived (p : PortId) (src dst : Byte) (b : OfferBody) (s : State) : Result :=
  onEvent (receiveHandover p src dst (Offer.read b) (decideOffer p src)) s

/-! ### ACCEPT, REFUSE, DONE, CANCEL (R110, R112, R113, R120 to R122) -/

/-- A screened ACCEPT: MOVING with its move target, or CANCEL sent back (R110, R121). -/
def decideAccept (p : PortId) (src : Byte) (car : CarNumber) (t : MoveTarget) (s : State) : State :=
  match s.inPlace car src .offering .offering with
  | none => sendHandover p src (.cancel car) s
  | some i =>
    s.updateEntry i fun e =>
      { e with state := .moving, phaseTimer := some s.live.handover.moveTimeout, target := some t }

/-- ACCEPT_RECEIVED (R110). -/
def execAcceptReceived (p : PortId) (src dst : Byte) (b : AcceptBody) (s : State) : Result :=
  onEvent (receiveHandover p src dst (readAccept b) (decideAccept p src b.car)) s

/-- An entry freed by a completed handover: HANDED_OVER, then UNDELIVERED MOVED (R112, R113). -/
def handOver (i : Index) (present : Bool) (s : State) : State :=
  let e := s.entry i
  freeEntry i (some (.handedOver e.car i (nodeByte e.peer) present)) .moved s

/-- A screened REFUSE, by its reason (R112). -/
def decideRefuse (src : Byte) (x : CarNumber × RefuseReason) (s : State) : State :=
  match s.inPlace x.1 src .offering .offering with
  | none => strayFrame s
  | some i =>
    if x.2 = .present then handOver i true s
    else
      let e := s.entry i
      notify (.handoverRefused e.car i (nodeByte e.peer) x.2) (s.setEntry i e.backToActive)

/-- The fields of a REFUSE in range (R106, R179). -/
def readRefuse (car : CarNumber) (reason : Byte) : Option (CarNumber × RefuseReason) :=
  match carInRange car, RefuseReason.ofCode reason.toNat with
  | some a, some r => some (a, r)
  | _, _ => none

/-- REFUSE_RECEIVED (R112). -/
def execRefuseReceived (p : PortId) (src dst : Byte) (car : CarNumber) (reason : Byte) (s : State) : Result :=
  onEvent (receiveHandover p src dst (readRefuse car reason) (decideRefuse src)) s

/-- A screened DONE (R113, R122). -/
def decideDone (src : Byte) (car : CarNumber) (s : State) : State :=
  match s.inPlace car src .offering .moving with
  | none => strayFrame s
  | some i => handOver i false s

/-- DONE_RECEIVED (R113). -/
def execDoneReceived (p : PortId) (src dst : Byte) (car : CarNumber) (s : State) : Result :=
  onEvent (receiveHandover p src dst (carInRange car) (decideDone src)) s

/-- A screened CANCEL (R120, R122). -/
def decideCancel (src : Byte) (car : CarNumber) (s : State) : State :=
  match s.inPlace car src .arriving .arriving with
  | none => strayFrame s
  | some i =>
    let e := s.entry i
    freeEntry i (some (.arrivalCancelled e.car i (nodeByte e.peer))) .moved s

/-- CANCEL_RECEIVED (R120). -/
def execCancelReceived (p : PortId) (src dst : Byte) (car : CarNumber) (s : State) : Result :=
  onEvent (receiveHandover p src dst (carInRange car) (decideCancel src)) s

/-! ### PASS (R135, R136) -/

/-- The record made from a PASS body (R136). -/
def passRecord (b : PassBody) : Record where
  car := b.car
  kind := b.kind
  received := b.payload.length
  stamp := b.stamp
  offset := 0
  margin := b.margin
  corrections := b.corrections
  truncated := false
  relayed := true
  survey := false
  origin := b.origin
  payload := b.payload

def Port.hopDrop (x : Port) : Port := { x with counters := { x.counters with hopLimit := count16 x.counters.hopLimit } }

def Port.directionDrop (x : Port) : Port :=
  { x with counters := { x.counters with wrongDirection := count16 x.counters.wrongDirection } }

/-- A PASS frame relayed toward the portal, dropped, or delivered at a SELF node (R135, R136). -/
def relayPass (p : PortId) (hop : Byte) (b : PassBody) (s : State) : State :=
  match s.portalPort with
  | none =>
    if hop.toNat ≤ 31 then deposit s.image.queues.portal (passRecord b) s else s.updatePort p Port.hopDrop
  | some q =>
    if p = q then s.updatePort p Port.directionDrop
    else if 31 ≤ hop.toNat then s.updatePort p Port.hopDrop
    else sendPass q (hop + 1) b s

/-- A PASS frame received: a payload length outside 1 to 64 makes it a bad frame (R129, R130). -/
def receivePass (p : PortId) (hop : Byte) (b : PassBody) (s : State) : State :=
  if 1 ≤ b.payload.length ∧ b.payload.length ≤ 64 then relayPass p hop b (s.updatePort p Port.frameIn)
  else s.updatePort p Port.badFrame

/-- PASS_RECEIVED (R135). The source and destination fields are not tested (R130). -/
def execPassReceived (p : PortId) (_src _dst hop : Byte) (b : PassBody) (s : State) : Result :=
  onEvent (receivePass p hop b) s

/-! ### The line (R128, R129, R132, R133) -/

/-- CHAIN_BAD_FRAME (R129). -/
def execChainBadFrame (p : PortId) (s : State) : Result := onEvent (fun t => t.updatePort p Port.badFrame) s

/-- A port on which a byte with a good stop bit has been received (R128). -/
def Port.comeUp (x : Port) : Port := { x with isUp := true }

/-- PORT_UP (R128). -/
def execPortUp (p : PortId) (s : State) : Result := onEvent (fun t => t.updatePort p Port.comeUp) s

/-- A port after 50 ms without a byte: DOWN, its queued frames discarded and counted as dropped, a frame being received
counted as bad, whether its bytes were taken one by one or the row alone says that there is one; nothing at a port that is DOWN
(R128, R133). -/
def Port.goDown (receiving : Bool) (x : Port) : Port :=
  if x.isUp then
    { x with
      isUp := false, receiver := .hunting, handover := [], passAlong := []
      counters := { x.counters with
        dropped := min (x.counters.dropped + x.handover.length + x.passAlong.length) 65535
        bad := if x.receiver != .hunting || receiving then count16 x.counters.bad else x.counters.bad } }
  else x

/-- PORT_DOWN (R133). -/
def execPortDown (p : PortId) (receiving : Bool) (s : State) : Result := onEvent (fun t => t.updatePort p (Port.goDown receiving)) s

/-- The end of a frame on the line: counted, and the next one taken (R132). -/
def Port.frameSent (x : Port) : Port :=
  match x.line with
  | none => x
  | some _ => Port.kick { x with line := none, counters := { x.counters with framesOut := count16 x.counters.framesOut } }

/-- CHAIN_FRAME_SENT (R132). -/
def execChainFrameSent (p : PortId) (s : State) : Result := onEvent (fun t => t.updatePort p Port.frameSent) s

end Sys2Proof.Machine
end

