-- ==== Sys2Proof/Machine/Store.lean ====
section
/-!
DEFINITION. The settings and their store (11): SET, GET, SAVE, and the steps of a SAVE.
-/
namespace Sys2Proof.Machine

/-! ### SET (R172, R78, R101) -/

/-- The condition under which a SET of a group is taken (R171). -/
def State.mayChange (s : State) : Group → Bool
  | .node => s.engine.state == .stopped && !(indices.any fun i => (s.entry i).state.inHandover)
  | .round | .queues => s.engine.state == .stopped
  | _ => true

/-- A live group marked as holding pending values (R172). -/
def Unapplied.mark (u : Unapplied) : Group → Unapplied
  | .roster => { u with roster := true }
  | .link => { u with link := true }
  | .handover => { u with handover := true }
  | .downlink => { u with downlink := true }
  | .pattern => { u with pattern := true }
  | .node | .round | .queues | .filter => u

/-- The commands of one entry longer than a number of bytes removed, oldest first, each reported TOO_LONG (R101). -/
def dropLong (limit : Nat) (i : Index) (s : State) : State :=
  let e := s.entry i
  notifyAll ((e.commands.filter fun k => decide (limit < k.payload.length)).map fun k =>
      .undelivered k.number e.car .tooLong k.sent)
    (s.setEntry i { e with commands := e.commands.filter fun k => decide (k.payload.length ≤ limit) })

/-- A receive queue after its settings changed: emptied when its depth or storage did, its episode ended and its lost count
kept (R78). -/
def RxQueue.reconfigure (old new : QueueSetting) (x : RxQueue) : RxQueue :=
  if old.depth = new.depth ∧ old.storage = new.storage then x else { x with records := [], episode := false }

/-- Every receive queue reconfigured from old settings to those in force (R78). -/
def reconfigureQueues (old : QueuesGroup) (s : State) : State :=
  (List.finRange 4).foldl (fun t q => t.setRx q (RxQueue.reconfigure old.queue[q.val] (t.queueSetting q) (t.rx q))) s

/-- An entry without a neighbour candidate: none, N 0, lead count 0 (R59, R60). -/
def Entry.forgetCandidate (e : Entry) : Entry := { e with candidate := none, nbrScore := 0, leadCount := 0 }

/-- A node with neither neighbour configured holds no candidate (R59): a SET that leaves it so clears them (DEDUCED, log 34). -/
def settleCandidates (s : State) : State :=
  if s.image.node.upNeighbour = 0 ∧ s.image.node.downNeighbour = 0 then s.mapEntries Entry.forgetCandidate else s

/-- The effect of an accepted SET that makes an image of a group's new values (R172). -/
def applySet (g : Group) (i : Settings) (s : State) : State :=
  let s' := { s with image := i, unapplied := s.unapplied.mark g }
  match g with
  | .node => settleCandidates s'
  | .round =>
    if codeBytes i.round.pd < codeBytes s.image.round.pd then forEach (dropLong (codeBytes i.round.pd)) s' else s'
  | .queues => reconfigureQueues s.image.queues s'
  | _ => s'

/-- BAD_VALUE with the number of a field (R172). -/
def Decision.badField (k : Nat) : Decision := .answer .badValue [byteOf k]

/-- SET of a group of the nine: the first line of R172's table that applies. -/
def decideSetGroup (g : Group) (fields : List Byte) (s : State) : Decision :=
  if s.mayChange g = false then .refuse .badState
  else
    match firstBadField g.fields (splitFields g.fields fields) with
    | some k => .badField k
    | none =>
      let i := s.image.withValues g (splitFields g.fields fields)
      match i.crossFailure g with
      | some k => .badField k
      | none =>
        if g = .round ∧ i.round.period < s.airtimeWith i.round then .refuse .noAirtime
        else if g = .queues ∧ recordStoreBytes < i.queues.budget then .refuse .noRoom
        else .accept (applySet g i)

/-- SET: a group code outside the nine is answered BAD_VALUE with field 0 (R172). -/
def decideSet (group : Byte) (fields : List Byte) (s : State) : Decision :=
  match Group.ofCode group.toNat with
  | none => .badField 0
  | some g => decideSetGroup g fields s

def execSet (tag group : Byte) (fields : List Byte) (s : State) : Result :=
  onRequest (.set tag group fields) (decideSet group fields) s

/-! ### GET (R173) -/

/-- What GET says besides the fields: for a live group whether its values are pending (R173), 1 for pending and 0 for
in force (DESIGN CHOICE, log 37). -/
def Unapplied.replyBytes (u : Unapplied) : Group → List Byte
  | .roster => [flagByte u.roster]
  | .link => [flagByte u.link]
  | .handover => [flagByte u.handover]
  | .downlink => [flagByte u.downlink]
  | .pattern => [flagByte u.pattern]
  | .node | .round | .queues | .filter => []

/-- GET (R173). -/
def decideGet (group : Byte) (s : State) : Decision :=
  match Group.ofCode group.toNat with
  | none => .badField 0
  | some g => .answer .ok (s.image.groupBytes g ++ s.unapplied.replyBytes g)

def execGet (tag group : Byte) (s : State) : Result := onRequest (.get tag group) (decideGet group) s

/-! ### SAVE (R174 to R176) -/

/-- SAVE taken: the image copied, the page's erase begun (R175). -/
def beginSave (s : State) : State :=
  { s with store := { s.store with
      page := []
      state := .saving
      job := some { copy := s.image.pageBytes, erasing := true, offset := 0, failed := 0 } } }

/-- SAVE (R175). -/
def decideSave (s : State) : Decision := if s.store.state = .saving then .refuse .busy else .accept beginSave

def execSave (tag : Byte) (s : State) : Result := onRequest (.save tag) decideSave s

/-- The page's erase has ended (step 2 of R175). -/
def eraseDone (s : State) : State :=
  match s.store.job with
  | none => s
  | some j => if j.erasing then { s with store := { s.store with page := [], job := some { j with erasing := false } } } else s

/-- SAVE_ERASE_DONE (R175). -/
def execSaveEraseDone (s : State) : Result := onEvent eraseDone s

/-- The programs made of one byte at most (R175). -/
def programLimit : Nat := 4

/-- A byte of the copy has been programmed and reads back: programmed again, the next byte, or the end of the SAVE (R175). -/
def programmed (readBack : Byte) (s : State) : State :=
  match s.store.job with
  | none => s
  | some j =>
    if j.erasing then s
    else
      let page := j.copy.take j.offset ++ [readBack]
      if j.copy[j.offset]? = some readBack then
        if j.offset + 1 < j.copy.length then
          { s with store := { s.store with page := page, job := some { j with offset := j.offset + 1, failed := 0 } } }
        else notify .storeDone { s with store := { s.store with page := page, state := .valid, job := none } }
      else if j.failed + 1 < programLimit then
        { s with store := { s.store with page := page, job := some { j with failed := j.failed + 1 } } }
      else notify (.storeFault j.offset) { s with store := { s.store with page := page, state := .invalid, job := none } }

/-- SAVE_BYTE_PROGRAMMED (R175). -/
def execSaveByteProgrammed (readBack : Byte) (s : State) : Result := onEvent (programmed readBack) s

/-! ### Loading (R174, R177) -/

/-- The image that field values of all nine groups make. -/
def Settings.ofGroups (gs : List (Group × List Nat)) : Settings :=
  gs.foldl (fun i g => i.withValues g.1 g.2) Settings.default

/-- Whether every condition of R171 on an image holds beyond its fields' ranges: the conditions that span fields, the record
store budget, and F at most P (R177). -/
def Settings.sound (i : Settings) : Bool :=
  (Group.all.all fun g => (i.crossFailure g).isNone) && decide (i.queues.budget ≤ recordStoreBytes)
    && decide (i.round.fixedPart ≤ i.round.period)

/-- The image of a page that passes the tests of start-up: the check word, the format number, every field and every condition
(step 1 of R177). A page not programmed to its last byte does not pass (R176; log 7). -/
def loadPage (page : List Byte) : Option Settings :=
  let groups := splitGroups Group.all ((page.drop 2).take imageSize)
  if page.length = imageSize + 4 ∧ checkMatches page ∧ leValue (page.take 2) = 1
      ∧ (groups.all fun g => (firstBadField g.1.fields g.2).isNone) ∧ (Settings.ofGroups groups).sound then
    some (Settings.ofGroups groups)
  else none

end Sys2Proof.Machine
end

