-- ==== Sys2Proof/Machine/Control.lean ====
section
/-!
DEFINITION. The control link (10) and the resets (11.4): frames received and sent, STATUS, RESTART, the full reset and what
start-up does after either reset.
-/
namespace Sys2Proof.Machine

/-! ### Frames received and sent (R162 to R167) -/

/-- REQUEST_RECEIVED (R164): a frame that passed the frame check. -/
def execRequestReceived (kind tag : Byte) (body : List Byte) (s : State) : Result :=
  onEvent (receiveRequest { kind := kind, tag := tag, body := body }) s

/-- A bad frame on the control link (R162). -/
def controlBad (s : State) : State := { s with control := s.control.badFrame }

/-- CONTROL_BAD_FRAME (R162): bad by its length, a stop bit or its check word. -/
def execControlBadFrame (s : State) : Result := onEvent controlBad s

/-- CONTROL_GAP_TIMEOUT (R162): a frame bad by a gap of more than 10 ms between two of its bytes. -/
def execControlGapTimeout (s : State) : Result := onEvent controlBad s

/-- A request that is answered BAD_REQUEST (R163); a frame that is none is not this row's. -/
def serveBadRequest (r : Request) (s : State) : State :=
  if badRequestFrame r then serve r (fun _ => Decision.refuse .badRequest) s else s

/-- BAD_REQUEST (R163). -/
def execBadRequest (kind tag : Byte) (body : List Byte) (s : State) : Result :=
  onEvent (serveBadRequest { kind := kind, tag := tag, body := body }) s

/-- The end of a frame on the transmit line: a reply frees its request's place in the buffer, or its refusal's place in the
busy list, and the next frame is taken (R165, R167). -/
def ControlLink.frameSent (k : ControlLink) : ControlLink :=
  match k.line with
  | none => k
  | some (.notice _) => ControlLink.kick { k with line := none }
  | some (.reply r) =>
    if r.busy then ControlLink.kick { k with line := none, busy := k.busy.tail }
    else ControlLink.kick { k with line := none, buffer := k.buffer.tail }

/-- CONTROL_FRAME_SENT (R167). -/
def execControlFrameSent (s : State) : Result := onEvent (fun t => { t with control := t.control.frameSent }) s

/-! ### STATUS (R168) -/

/-- The count and the lost count of a receive queue (R168). -/
def RxQueue.statusBytes (x : RxQueue) : List Byte := [byteOf x.records.length, byteOf x.lost]

/-- The fields of the STATUS reply, in the order R168 lists them. R180 does not say whether the pool and broadcast counts and the
entry counts are counters: 1 byte each (DESIGN CHOICE, log 32). R168 orders neither the seven entry counts, the queues nor the two
ports among themselves: the entry counts stand by state code, FREE to ARRIVING, the queues by number, and the up port before the down
port (DESIGN CHOICE, log 37). -/
def State.statusBytes (s : State) : List Byte :=
  [byteOf s.engine.state.code] ++ roundBytes s.engine.round
    ++ s.quiet.replyBytes
    ++ ([EntryState.free, .pending, .joining, .active, .offering, .moving, .arriving].map fun x => byteOf (s.countIn x))
    ++ [byteOf s.poolCount, byteOf s.broadcasts.length]
    ++ s.queues.toList.flatMap RxQueue.statusBytes
    ++ [flagByte s.ports.up.isUp, flagByte s.ports.down.isUp, byteOf s.store.state.code]
    ++ halfBytes s.control.badFrames ++ halfBytes s.control.noticesLost

def decideStatus (s : State) : Decision := .answer .ok s.statusBytes

def execStatus (tag : Byte) (s : State) : Result := onRequest (.status tag) decideStatus s

/-! ### RESTART (R169) -/

/-- The BUSY reply to a request that waits in the buffer when a RESTART is taken (step 1 of R169). -/
def busyReply (r : Request) : Reply := { kind := replyKind r.kind, tag := r.tag, status := .busy, body := [], busy := false }

/-- RESTART taken: the requests waiting behind it are answered BUSY, and the receiver starts no new frame (step 1 of R169). -/
def ControlLink.beginRestart (k : ControlLink) : ControlLink :=
  ((k.buffer.filter fun b => !b.taken).map fun b => busyReply b.request).foldl (fun c r => ControlLink.reply r c)
    { k with restarting := true, buffer := k.buffer.map fun b => { b with taken := true } }

/-- RESTART (R169). -/
def decideRestart (s : State) : Decision :=
  if s.store.state = .saving then .refuse .busy else .accept fun t => { t with control := t.control.beginRestart }

def execRestart (tag : Byte) (s : State) : Result := onRequest (.restart tag) decideRestart s

/-! ### The values after a reset (R10, R50, R65, R86, R104, R138, R148, R153, R160, R170) -/

/-- Every block at its values after either reset, given what the reset keeps or reads: the straps, the settings, the store.
The queue of waiting commands, and what arrives behind it, are outside the part. -/
def State.afterReset (straps : Straps) (image : Settings) (live : LiveSettings) (unapplied : Unapplied) (store : Store)
    (s : State) : State where
  pending := s.pending
  arrivals := s.arrivals
  inReset := false
  control :=
    { straps := straps, receiver := .hunting, buffer := [], busy := [], replies := [], notices := [], line := none
      badFrames := 0, noticesLost := 0, restarting := false }
  image := image
  live := live
  unapplied := unapplied
  store := store
  engine :=
    { state := .stopped, round := 0, resumePending := false, inProgress := false, plan := Plan.empty, prev := Plan.empty
      older := Plan.empty, radio := none }
  roster := Vector.replicate 24 Entry.vacant
  order := []
  answers := []
  bars := []
  grace := 0
  nextCommand := 1
  broadcasts := []
  nextBroadcast := 1
  queues := Vector.replicate 4 RxQueue.empty
  ports := { up := Port.afterReset, down := Port.afterReset }
  quiet := { lineClaim := false, hostClaim := false, state := .opened, timer := 0, ack := false }
  counters := NodeCounters.zero
  freeIndex := s.freeIndex

/-- SILENT at the end of start-up when QUIET_REQ is asserted then (R148). -/
def startQuiet (quietReq : Bool) (s : State) : State :=
  if quietReq then enterSilent { s with quiet := { s.quiet with lineClaim := true } } else s

/-- START at the end of start-up, when autostart is on and the node number is not 0 (step 3 of R177). -/
def autostart (s : State) : State :=
  if s.image.node.autostart ∧ s.image.node.node ≠ 0 then startEngine s else s

/-- Steps 2 and 3 of start-up (R177): READY first of all notices, then SILENT, then START. -/
def startUp (cause : ReadyCause) (quietReq : Bool) (s : State) : State :=
  autostart (startQuiet quietReq (notify (.ready cause s.store.source) s))

/-! ### The full reset (R176, R177) -/

/-- The cause that READY carries after a full reset (R177). -/
def readyCauseOf : ResetCause → ReadyCause
  | .power => .power
  | .line => .line

/-- A full reset whose page read gives an image, or none for the factory defaults (step 1 of R177). -/
def resetWith (straps : Straps) (loaded : Option Settings) (s : State) : State :=
  match loaded with
  | some i =>
    s.afterReset straps i i.liveGroups Unapplied.none { page := s.store.page, state := .valid, job := none, source := .loaded }
  | none =>
    s.afterReset straps Settings.default Settings.default.liveGroups Unapplied.none
      { page := s.store.page, state := .invalid, job := none, source := .defaults }

/-- FULL_RESET (R177). -/
def execFullReset (cause : ResetCause) (straps : Straps) (quietReq : Bool) (s : State) : Result :=
  .next (startUp (readyCauseOf cause) quietReq (resetWith straps (loadPage s.store.page) s))

/-- A chain port while RESET is asserted: its line silent, its queued frames and a frame being received lost without a count
(R127, R138). -/
def Port.enterReset (x : Port) : Port := { x with receiver := .hunting, handover := [], passAlong := [], line := none }

/-- The part while RESET is asserted (R170, R176, R177): the transmitters silent, QUIET_ACK deasserted, replies, notices and
frames lost, a SAVE stopped where it stands. What it holds besides is lost at the FULL_RESET that follows. -/
def enterReset (s : State) : State :=
  { s with
    inReset := true
    control := { s.control with
      receiver := .hunting, buffer := [], busy := [], replies := [], notices := [], line := none, restarting := false }
    store := { s.store with job := none, state := if s.store.state = .saving then .invalid else s.store.state }
    engine := { s.engine with radio := none }
    ports := { up := s.ports.up.enterReset, down := s.ports.down.enterReset }
    quiet := { s.quiet with ack := false } }

/-- RESET_ASSERTED (R176, R177). -/
def execResetAsserted (s : State) : Result := .next (enterReset s)

/-! ### The restart (R169, R178) -/

/-- Whether a restart under way takes effect: the reply queue empty and no frame on the line (step 3 of R169). A frame still
being received then does not hold it back, and is lost by R170 (DEDUCED, log 23). -/
def ControlLink.restartReady (k : ControlLink) : Bool :=
  k.restarting && k.replies.isEmpty && k.line.isNone

/-- A RESTART takes effect: the settings, pending ones included, the store and the straps are kept (R169, R178). -/
def restartEffect (quietReq : Bool) (s : State) : State :=
  if s.control.restartReady then
    startUp .restart quietReq (s.afterReset s.control.straps s.image s.live s.unapplied s.store)
  else s

/-- RESTART_TAKES_EFFECT (R169). -/
def execRestartTakesEffect (quietReq : Bool) (s : State) : Result := onEvent (restartEffect quietReq) s

end Sys2Proof.Machine
end

