-- ==== Sys2Proof/Machine/Dispatch.lean ====
section
/-!
DEFINITION. The meaning of every command: one arm for each constructor of `Instr`.
-/
namespace Sys2Proof.Machine

def exec (i : Instr) (s : State) : Host.Outcome State Fault Refusal :=
  match i with
  | .fullReset cause straps quietReq => Sys2Proof.Machine.execFullReset cause straps quietReq s
  | .requestReceived kind tag body => Sys2Proof.Machine.execRequestReceived kind tag body s
  | .controlBadFrame => Sys2Proof.Machine.execControlBadFrame s
  | .controlGapTimeout => Sys2Proof.Machine.execControlGapTimeout s
  | .badRequest kind tag body => Sys2Proof.Machine.execBadRequest kind tag body s
  | .status tag => Sys2Proof.Machine.execStatus tag s
  | .restart tag => Sys2Proof.Machine.execRestart tag s
  | .restartTakesEffect quietReq => Sys2Proof.Machine.execRestartTakesEffect quietReq s
  | .set tag group fields => Sys2Proof.Machine.execSet tag group fields s
  | .get tag group => Sys2Proof.Machine.execGet tag group s
  | .save tag => Sys2Proof.Machine.execSave tag s
  | .saveEraseDone => Sys2Proof.Machine.execSaveEraseDone s
  | .saveByteProgrammed readBack => Sys2Proof.Machine.execSaveByteProgrammed readBack s
  | .start tag => Sys2Proof.Machine.execStart tag s
  | .stop tag => Sys2Proof.Machine.execStop tag s
  | .stepRound tag => Sys2Proof.Machine.execStepRound tag s
  | .plan tag => Sys2Proof.Machine.execPlan tag s
  | .roster tag part first => Sys2Proof.Machine.execRoster tag part first s
  | .admitCar tag car => Sys2Proof.Machine.execAdmit tag car s
  | .deny tag car bar => Sys2Proof.Machine.execDeny tag car bar s
  | .evict tag car bar => Sys2Proof.Machine.execEvict tag car bar s
  | .setOrder tag list => Sys2Proof.Machine.execSetOrder tag list s
  | .survey tag car value => Sys2Proof.Machine.execSurvey tag car value s
  | .send tag car kind payload expiry notify => Sys2Proof.Machine.execSend tag car kind payload expiry notify s
  | .withdraw tag number => Sys2Proof.Machine.execWithdraw tag number s
  | .broadcast tag payload repeats urgent => Sys2Proof.Machine.execBroadcast tag payload repeats urgent s
  | .take tag queue count => Sys2Proof.Machine.execTake tag queue count s
  | .peek tag queue => Sys2Proof.Machine.execPeek tag queue s
  | .flush tag queue => Sys2Proof.Machine.execFlush tag queue s
  | .quiet tag value moment => Sys2Proof.Machine.execQuiet tag value moment s
  | .counts tag scope index => Sys2Proof.Machine.execCounts tag scope index s
  | .clearCounts tag scope index => Sys2Proof.Machine.execClearCounts tag scope index s
  | .controlFrameSent => Sys2Proof.Machine.execControlFrameSent s
  | .roundStart => Sys2Proof.Machine.execRoundStart s
  | .offerTimerExpiry index => Sys2Proof.Machine.execOfferTimerExpiry index s
  | .moveTimerExpiry index => Sys2Proof.Machine.execMoveTimerExpiry index s
  | .arrivalTimerExpiry index => Sys2Proof.Machine.execArrivalTimerExpiry index s
  | .confirmTimerExpiry index => Sys2Proof.Machine.execConfirmTimerExpiry index s
  | .barExpiry car => Sys2Proof.Machine.execBarExpiry car s
  | .commandExpiry number => Sys2Proof.Machine.execCommandExpiry number s
  | .broadcastDone => Sys2Proof.Machine.execBroadcastDone s
  | .roundComplete => Sys2Proof.Machine.execRoundComplete s
  | .slotStart position => Sys2Proof.Machine.execSlotStart position s
  | .uplinkWindowClose ago position result => Sys2Proof.Machine.execUplinkWindowClose ago position result s
  | .joinWindowClose ago slot result => Sys2Proof.Machine.execJoinWindowClose ago slot result s
  | .strayBurst => Sys2Proof.Machine.execStrayBurst s
  | .quietBreach car silent => Sys2Proof.Machine.execQuietBreach car silent s
  | .lineClaimArrives moment => Sys2Proof.Machine.execLineClaimArrives moment s
  | .lineClaimWithdrawn => Sys2Proof.Machine.execLineClaimWithdrawn s
  | .drainEnd => Sys2Proof.Machine.execDrainEnd s
  | .offerReceived port src dst body => Sys2Proof.Machine.execOfferReceived port src dst body s
  | .acceptReceived port src dst body => Sys2Proof.Machine.execAcceptReceived port src dst body s
  | .refuseReceived port src dst car reason => Sys2Proof.Machine.execRefuseReceived port src dst car reason s
  | .doneReceived port src dst car => Sys2Proof.Machine.execDoneReceived port src dst car s
  | .cancelReceived port src dst car => Sys2Proof.Machine.execCancelReceived port src dst car s
  | .passReceived port src dst hop body => Sys2Proof.Machine.execPassReceived port src dst hop body s
  | .chainBadFrame port => Sys2Proof.Machine.execChainBadFrame port s
  | .portUp port => Sys2Proof.Machine.execPortUp port s
  | .portDown port receiving => Sys2Proof.Machine.execPortDown port receiving s
  | .chainFrameSent port => Sys2Proof.Machine.execChainFrameSent port s
  | .quietTimerTick => Sys2Proof.Machine.execQuietTimerTick s
  | .resetAsserted => Sys2Proof.Machine.execResetAsserted s

end Sys2Proof.Machine
end

