-- ==== Sys2Proof/Machine/Lines.lean ====
section
/-!
DEFINITION. The receivers of the three lines, byte by byte (R128, R129, R162): hunting for a sync byte, taking a frame, and
handing it on as the command of the table that it is; and what arrives behind the waiting commands.
-/
namespace Sys2Proof.Machine

/-- How frames stand on a line: the sync byte, the number of length bytes, and the least and the greatest length (R129, R162). -/
structure Framing where
  sync : Byte
  width : Nat
  least : Nat
  most : Nat

/-- A chain frame: sync 0xA7, a length byte, 4 to 78 (R129). -/
def chainFraming : Framing := { sync := 0xA7, width := 1, least := 4, most := 78 }

/-- A control-link frame: sync 0xC3, a length of 2 bytes, 2 to 300 (R162). -/
def controlFraming : Framing := { sync := 0xC3, width := 2, least := 2, most := 300 }

/-- Whether the bytes taken are the whole of a frame: a bad length ends it at once; any other ends with the length's bytes and
the 2 check bytes (R129, R162). -/
def Framing.whole (f : Framing) (bs : List LineByte) : Bool :=
  let l := leValue (((bs.drop 1).take f.width).map LineByte.value)
  decide (f.width < bs.length) && (decide (l < f.least) || decide (f.most < l) || decide (f.width + l + 3 ≤ bs.length))

/-- One byte at a receiver: the receiver after it, and the frame it ends, when it ends one. The receiver stays inside that frame
until the frame's command has been taken. A sync byte starts a frame whatever its stop bit, which makes the frame bad
(DEDUCED, log 3). -/
def Receiver.take (f : Framing) (mayStart : Bool) (b : LineByte) : Receiver → Receiver × Option (List LineByte)
  | .hunting => (if b.value = f.sync ∧ mayStart then .inside [b] else .hunting, none)
  | .inside bs => (.inside (bs ++ [b]), if f.whole (bs ++ [b]) then some (bs ++ [b]) else none)

/-- The command that a frame ended on the control link is: a bad stop bit anywhere makes it bad (R162). -/
def controlRow (bs : List LineByte) : Instr :=
  if bs.all LineByte.stop then controlCommand (bs.tail.map LineByte.value) else .controlBadFrame

/-- The command that a frame ended on a chain port is: a bad stop bit anywhere makes it bad (test 1 of R129). -/
def chainRow (p : PortId) (bs : List LineByte) : Instr :=
  if bs.all LineByte.stop then chainCommand p (bs.tail.map LineByte.value) else .chainBadFrame p

/-- A byte received on the control link (R162); the frame it ends is the next command taken. -/
def controlByte (b : LineByte) (s : State) : State :=
  let r := s.control.receiver.take controlFraming s.control.mayStart b
  { s with control := { s.control with receiver := r.1 }, pending := s.pending ++ (r.2.map controlRow).toList }

/-- A byte received on a chain port (R129): one with a good stop bit brings a DOWN port UP (R128), and the frame it ends is taken
next. -/
def chainByte (p : PortId) (b : LineByte) (s : State) : State :=
  let x := s.port p
  let r := x.receiver.take chainFraming true b
  { s.setPort p { x with receiver := r.1 } with
    pending := s.pending ++ (if b.stop && !x.isUp then [.portUp p] else []) ++ (r.2.map (chainRow p)).toList }

/-- A byte received on a line; from the start of a full reset until start-up ends it is lost (R161, R138). -/
def receiveByte (l : Line) (b : LineByte) (s : State) : State :=
  if s.inReset then s
  else
    match l with
    | .control => controlByte b s
    | .chain p => chainByte p b s

/-- What arrives next is taken: a byte by its receiver, a command by the queue of waiting commands. -/
def takeArrival (a : Arrival) (s : State) : State :=
  match a with
  | .byte l b => receiveByte l b s
  | .command c => { s with pending := s.pending ++ [c] }

end Sys2Proof.Machine
end

