-- ==== Sys2Proof/Machine/Step.lean ====
section
/-!
DEFINITION. One step of the part: the command at the front of the queue is taken and run; on an empty queue the next arrival is
taken, and when nothing arrives the part idles (DESIGN CHOICE, log 20).
-/
namespace Sys2Proof.Machine

/-- One step: the first waiting command, run with the rest of the queue; without one, the next byte or command that arrives. -/
def step (s : State) : Host.Outcome State Fault Refusal :=
  match s.pending with
  | c :: cs => exec c { s with pending := cs }
  | [] =>
    match s.arrivals with
    | a :: as => .next (takeArrival a { s with arrivals := as })
    | [] => .next s

/-- The state with the command that table bits spell put at the front of the queue; none of the table's rows has bits, so no
word spells one and the state is as it was. -/
def State.withFetchWord (s : State) (nbits w : Nat) : State :=
  match decodeTableWord nbits w with
  | none => s
  | some c => { s with pending := c :: s.pending }

end Sys2Proof.Machine
end

