-- ==== Sys2Proof/WellFormed.lean ====
section
/-!
DEFINITION. When a command is one that the outside can bring: its operands lie in the ranges that the lines, the modem and
the numbers of the spec allow. `exec` is defined on every command; an ill-formed one is one that nothing can bring.
-/
namespace Sys2Proof
open Sys2Proof.Machine

/-- A burst that passed the modem's check: 10 to 74 bytes ending in their check word (R66, R1). -/
def soundBurst (bytes : List Byte) : Bool := decide (10 ≤ bytes.length) && decide (bytes.length ≤ 74) && checkMatches bytes

/-- The moment that a QUIET row carries; no other request row has one. -/
def momentOf : Instr → Moment
  | .quiet _ _ m => m
  | _ => { offset := 0, bursts := [], joins := [] }

/-- A moment within a round of at most 40,000 AU (R2). -/
def soundMoment (m : Moment) : Bool := decide (m.offset ≤ 40000)

/-- A request row that its own frame spells: a tag of 1 to 255, a body that fits a frame, and a body that reads back as the
row (R162, R163, R180). -/
def soundRequest (c : Instr) : Bool :=
  match requestOf c with
  | none => true
  | some r =>
    r.tag != 0 && decide (r.body.length ≤ maxBody) && readRequest (momentOf c) r.kind r.tag r.body == some c

/-- The operands of a command lie where its event can put them. -/
def Instr.wellFormed : Instr → Bool
  | .requestReceived _ _ body => decide (body.length ≤ maxBody)
  | .badRequest kind tag body => decide (body.length ≤ maxBody) && badRequestFrame { kind := kind, tag := tag, body := body }
  | .quiet tag value m => soundRequest (.quiet tag value m) && soundMoment m
  | .barExpiry car => car != 0
  | .commandExpiry number => number != 0
  | .uplinkWindowClose _ _ (.passed _ _ bytes) => soundBurst bytes
  | .joinWindowClose _ _ (.passed bytes) => soundBurst bytes
  | .lineClaimArrives m => soundMoment m
  | .passReceived _ _ _ _ b => decide (1 ≤ b.payload.length) && decide (b.payload.length ≤ 64)
  | c => soundRequest c

end Sys2Proof
end

