-- ==== Sys2Proof/Safety.lean ====
section
/-!
DEFINITION. What counts as a safe run, and the conditions that claims use: the bounds and agreements that the rules give the
part's state, each a proposition on a state, and what it is for a command to be taken.
-/
namespace Sys2Proof.Machine

/-! ### The roster -/

/-- The order table holds every slotted index exactly once, and no other (R30). -/
def State.OrderExact (s : State) : Prop := s.order.Nodup ∧ ∀ i : Index, i ∈ s.order ↔ (s.entry i).state.slotted = true

/-- The order-table airtime does not exceed the round period (R6). -/
def State.AirtimeFits (s : State) : Prop := s.airtime ≤ s.image.round.period

/-- No car number is held by two entries, and every entry that is not FREE holds one (R27, R29). -/
def State.CarsDistinct (s : State) : Prop :=
  (∀ i : Index, (s.entry i).state ≠ .free → (s.entry i).car ≠ 0) ∧
  ∀ i j : Index, (s.entry i).state ≠ .free → (s.entry j).state ≠ .free → (s.entry i).car = (s.entry j).car → i = j

/-- A position of a plan that is not stale names a slotted entry that holds the position's car (R17, R19). -/
def State.Serves (s : State) (p : Plan) : Prop :=
  ∀ q ∈ p.positions, q.stale = false → (s.entry q.index).state.slotted = true ∧ (s.entry q.index).car = q.car

/-- A FREE entry holds the values of R27's last column. -/
def State.FreeVacant (s : State) : Prop := ∀ i : Index, (s.entry i).state = .free → s.entry i = Entry.vacant

/-- An entry has a peer and a phase timer exactly when it is OFFERING, MOVING or ARRIVING, and a move target exactly when it
is MOVING (R107). -/
def Entry.HandoverFields (e : Entry) : Prop :=
  e.peer.isSome = e.state.inHandover ∧ e.phaseTimer.isSome = e.state.inHandover ∧ e.target.isSome = (e.state == .moving)

/-- A peer is a configured neighbour (R107). -/
def State.PeersNeighbours (s : State) : Prop :=
  ∀ i : Index, ∀ n : Byte, (s.entry i).peer = some n → (s.portFacing n).isSome = true

/-- A node with neither neighbour configured holds no candidate (R59). -/
def State.CandidatesAllowed (s : State) : Prop :=
  s.image.node.upNeighbour = 0 → s.image.node.downNeighbour = 0 →
    ∀ i : Index, (s.entry i).candidate = none ∧ (s.entry i).nbrScore = 0 ∧ (s.entry i).leadCount = 0

/-- The roster as a whole. -/
structure State.RosterSound (s : State) : Prop where
  order : s.OrderExact
  cars : s.CarsDistinct
  plan : s.Serves s.engine.plan
  prev : s.Serves s.engine.prev
  older : s.Serves s.engine.older
  vacant : s.FreeVacant
  handover : ∀ i : Index, (s.entry i).HandoverFields
  peers : s.PeersNeighbours
  candidates : s.CandidatesAllowed

/-- The order table is exact and its airtime fits the round (R6, R30). -/
structure State.RoundFits (s : State) : Prop where
  order : s.OrderExact
  airtime : s.AirtimeFits

/-- What the plans in force rest on: the order table is exact, a FREE entry is vacant, and every position that is not stale
names a slotted entry that still holds the position's car (R17, R19, R27, R48). -/
structure State.PlanServed (s : State) : Prop where
  order : s.OrderExact
  vacant : s.FreeVacant
  plan : s.Serves s.engine.plan
  prev : s.Serves s.engine.prev
  older : s.Serves s.engine.older

/-- The class that an entry has once the pending promotions of a round start are applied (R8). -/
def Entry.promotedRate (e : Entry) : RateClass := if e.rate.slowerThan e.wantedRate then e.wantedRate else e.rate

/-! ### Quiet and the radio -/

/-- The quiet controller, the round engine and the radio agree: QUIET_ACK only in SILENT; no round in progress unless OPEN;
nothing on the air in SILENT or in reset; OPEN without a claim, SILENT with one; a STOPPED or PAUSED engine without a round,
a STOPPING one with one (R10 to R15, R139, R141 to R145). -/
structure State.QuietSound (s : State) : Prop where
  ack : s.quiet.ack = (s.quiet.state == .silent && !s.inReset)
  rounds : s.quiet.state ≠ .opened → s.engine.inProgress = false
  silent : s.quiet.state = .silent ∨ s.inReset = true → s.engine.radio = none
  opened : s.quiet.state = .opened → s.quiet.claimed = false
  claimed : s.quiet.state = .silent → s.quiet.claimed = true
  resting : s.engine.state = .stopped ∨ s.engine.state = .paused → s.engine.inProgress = false
  stopping : s.engine.state = .stopping → s.engine.inProgress = true

/-! ### The control link -/

/-- The replies made and not yet sent to the last byte, the one on the line first. -/
def ControlLink.outstanding (k : ControlLink) : List Reply :=
  match k.line with
  | some (.reply r) => r :: k.replies
  | _ => k.replies

/-- The control link's bounds (R162, R164, R166), a frame under way only while the busy list has room, and its accounting: the
taken requests stand at the front of the buffer, one outstanding reply for each of them, and one for each refusal of the busy
list (R164, R165). -/
structure ControlLink.Accounted (k : ControlLink) : Prop where
  buffer : k.buffer.length ≤ bufferCapacity
  busy : k.busy.length ≤ busyCapacity
  notices : k.notices.length ≤ noticeCapacity
  badFrames : k.badFrames ≤ 65535
  noticesLost : k.noticesLost ≤ 65535
  receiving : k.receiver ≠ .hunting → k.busy.length < busyCapacity
  takenFirst : k.buffer.Pairwise fun a b => b.taken = true → a.taken = true
  answered : (k.outstanding.filter fun r => !r.busy).length = (k.buffer.filter fun b => b.taken).length
  refused : (k.outstanding.filter fun r => r.busy).length = k.busy.length

/-! ### Queues, pool, ports -/

/-- A receive queue within its settings: at most its depth of records, each kept within its storage size; the lost count in
its range; an overflow episode only while the queue stands at its depth, which is not 0 (R77, R79, R80, R82). -/
structure RxQueue.Within (cfg : QueueSetting) (x : RxQueue) : Prop where
  depth : x.records.length ≤ cfg.depth
  storage : ∀ r ∈ x.records, r.payload.length ≤ codeBytes cfg.storage
  lost : x.lost ≤ 255
  episode : x.episode = true → x.records.length = cfg.depth ∧ cfg.depth ≠ 0

/-- The record store (R77): the four queues within their settings, and those within its 8,192 bytes. -/
structure State.RecordStoreHeld (s : State) : Prop where
  queues : ∀ q : Fin 4, (s.rx q).Within (s.queueSetting q)
  budget : s.image.queues.budget ≤ recordStoreBytes

/-- The command pool within its bounds: at most 64 commands, at most 8 to a list, only a head outstanding, and commands only
in JOINING, ACTIVE, OFFERING and MOVING (R87, R88). -/
structure State.PoolHeld (s : State) : Prop where
  pool : s.poolCount ≤ poolCapacity
  lists : ∀ i : Index, (s.entry i).commands.length ≤ listCapacity
  head : ∀ i : Index, ∀ k ∈ (s.entry i).commands.tail, k.seqUsed = none
  states : ∀ i : Index, (s.entry i).commands ≠ [] →
    (s.entry i).state = .joining ∨ (s.entry i).state = .active ∨ (s.entry i).state = .offering ∨ (s.entry i).state = .moving

/-- The numbers that name commands and broadcasts: none of them 0, no two alike in the pool or in the broadcast queue, and the
next of each never 0 (R87, R90, R102). An outstanding command was sent, and so was every command of the pool that a slot names, so
that a slot names the command it carried and no later one of its number (R87, R94). -/
structure State.NumbersHeld (s : State) : Prop where
  next : s.nextCommand ≠ 0
  numbers : ∀ i : Index, ∀ k ∈ (s.entry i).commands, k.number ≠ 0
  unique : (indices.flatMap fun i => (s.entry i).commands.map Command.number).Nodup
  nextId : s.nextBroadcast ≠ 0
  ids : ∀ b ∈ s.broadcasts, b.id ≠ 0
  uniqueIds : (s.broadcasts.map Broadcast.id).Nodup
  queue : s.broadcasts.length ≤ broadcastCapacity
  outstanding : ∀ i : Index, ∀ k ∈ (s.entry i).commands, k.seqUsed ≠ none → k.sent = true
  carried : ∀ ago : Fin 3, ∀ p ∈ (s.engine.planOf ago).positions, ∀ i : Index, ∀ k ∈ (s.entry i).commands,
    p.sent = .command k.number → k.sent = true

/-- The number some places after one, counting upward from 1 to a top and wrapping (R90). -/
def numberAt (top first places : Nat) : Nat := (first - 1 + places) % top + 1

/-- The six counters of a port in their range (R137). -/
structure PortCounters.InRange (c : PortCounters) : Prop where
  framesOut : c.framesOut ≤ 65535
  framesIn : c.framesIn ≤ 65535
  bad : c.bad ≤ 65535
  dropped : c.dropped ≤ 65535
  hopLimit : c.hopLimit ≤ 65535
  wrongDirection : c.wrongDirection ≤ 65535

/-- A chain port within its bounds: its out queues, empty while it is DOWN, a frame on the line whenever one is queued, and
its counters (R131 to R133, R137). -/
structure Port.Held (x : Port) : Prop where
  handover : x.handover.length ≤ handoverCapacity
  passAlong : x.passAlong.length ≤ passCapacity
  down : x.isUp = false → x.handover = [] ∧ x.passAlong = []
  sending : x.line = none → x.handover = [] ∧ x.passAlong = []
  counters : x.counters.InRange

/-- The join answer list, the bar list, the broadcast queue and the grace count within their bounds (R41, R43, R47, R102). -/
structure State.ListsHeld (s : State) : Prop where
  answers : s.answers.length ≤ answerCapacity
  answerCars : (s.answers.map Answer.car).Nodup
  bars : s.bars.length ≤ 8
  barCars : (s.bars.map Bar.car).Nodup
  barRounds : ∀ b ∈ s.bars, 1 ≤ b.rounds ∧ b.rounds ≤ 65535
  broadcasts : s.broadcasts.length ≤ 4
  grace : s.grace ≤ 4 ∧ s.live.roster.graceRounds ≤ 4 ∧ s.image.roster.graceRounds ≤ 4

/-- A safe state: every bound and agreement above. -/
structure State.Safe (s : State) : Prop where
  roster : s.RosterSound
  fits : s.AirtimeFits
  quiet : s.QuietSound
  control : s.control.Accounted
  records : s.RecordStoreHeld
  pool : s.PoolHeld
  numbers : s.NumbersHeld
  ports : s.ports.up.Held ∧ s.ports.down.Held
  lists : s.ListsHeld

/-- The range of each field of a group, counted from 0, as the tables of R171, R74 and R77 give it. -/
def Group.allows : Group → Nat → Nat → Prop
  | .node, k, v => match k with
    | 0 | 2 | 3 => v ≤ 254
    | 1 => v ≤ 15
    | 4 => v ≤ 2
    | _ => v ≤ 1
  | .round, k, v => match k with
    | 0 => 1000 ≤ v ∧ v ≤ 40000
    | 1 | 2 => v ≤ 500
    | 3 => 1 ≤ v ∧ v ≤ 4
    | 4 => 2 ≤ v ∧ v ≤ 15
    | _ => v ≤ 1
  | .roster, k, v => match k with
    | 0 => v ≤ 1
    | 1 => 1 ≤ v ∧ v ≤ 64
    | 2 => 2 ≤ v ∧ v ≤ 32
    | _ => v ≤ 4
  | .link, k, v => match k with
    | 0 => v ≤ 254
    | 1 => 1 ≤ v ∧ v ≤ 255
    | 2 => 1 ≤ v ∧ v ≤ 32
    | 3 => v ≤ 64
    | _ => 1 ≤ v ∧ v ≤ 16
  | .handover, k, v => match k with
    | 0 => v ≤ 1
    | 1 => 2 ≤ v ∧ v ≤ 32
    | _ => 2 ≤ v ∧ v ≤ 64
  | .downlink, k, v => match k with
    | 0 => 1 ≤ v ∧ v ≤ 15
    | _ => v ≤ 255
  | .queues, k, v =>
    if 16 ≤ k then v ≤ 3
    else match k % 4 with
    | 0 => v = 0 ∨ (4 ≤ v ∧ v ≤ 64 ∧ v % 4 = 0)
    | 1 => 4 ≤ v ∧ v ≤ 15
    | 2 => v ≤ 8
    | _ => v ≤ 1
  | .filter, k, v => match k % 5 with
    | 0 => v ≤ 1
    | 1 | 2 => v ≤ 63
    | 3 => True
    | _ => v ≤ 5
  | .pattern, k, v => match k with
    | 0 => v ≤ 1
    | 1 => v = 1 ∨ v = 2 ∨ v = 4 ∨ v = 8
    | 2 => 1 ≤ v ∧ v ≤ 64
    | 3 => 1 ≤ v ∧ v ≤ 12
    | _ => v ≤ 255

/-- The number of fields of a group (R171). -/
def Group.count : Group → Nat
  | .node | .round => 6
  | .roster | .handover => 4
  | .link => 5
  | .downlink => 2
  | .queues => 18
  | .filter => 80
  | .pattern => 16

/-- The bytes of a field of a group: the three times of ROUND take 2, a car number 3, every other field 1 (R180). -/
def Group.width (g : Group) (k : Nat) : Nat := if g = .round ∧ k < 3 then 2 else if g = .filter ∧ k % 5 = 3 then 3 else 1

/-- An image every field of which lies in its range and every condition of which holds (R171, R177). -/
structure Settings.Valid (i : Settings) : Prop where
  fields : ∀ g : Group, firstBadField g.fields (i.values g) = none
  filter : i.filter.length = 16
  pattern : i.pattern.bytes.length = 12
  sound : i.sound = true

/-- Every block at its values after a reset, but for what start-up then does with the notices, the quiet controller and the
engine's state (R10, R50, R65, R86, R104, R138, R153, R160, R170). -/
structure State.Fresh (s : State) : Prop where
  entries : ∀ i : Index, s.entry i = Entry.vacant
  order : s.order = []
  answers : s.answers = []
  bars : s.bars = []
  grace : s.grace = 0
  commands : s.nextCommand = 1
  broadcasts : s.broadcasts = [] ∧ s.nextBroadcast = 1
  queues : ∀ q : Fin 4, s.rx q = RxQueue.empty
  ports : s.ports.up = Port.afterReset ∧ s.ports.down = Port.afterReset
  counters : s.counters = NodeCounters.zero
  round : s.engine.round = 0 ∧ s.engine.inProgress = false ∧ s.engine.plan = Plan.empty ∧ s.engine.prev = Plan.empty ∧
    s.engine.older = Plan.empty ∧ s.engine.radio = none
  control : s.control.buffer = [] ∧ s.control.busy = [] ∧ s.control.replies = [] ∧ s.control.badFrames = 0 ∧
    s.control.noticesLost = 0 ∧ s.control.restarting = false ∧ s.control.receiver = .hunting

/-- The engine state that start-up leaves (step 3 of R177, R11). -/
def startUpEngine (i : Settings) : EngineState :=
  if i.node.autostart ∧ i.node.node ≠ 0 then (match i.round.mode with | .free => .running | .stepped => .paused) else .stopped

/-- The quiet controller that start-up leaves (R148). -/
def startUpQuiet (quietReq : Bool) : Quiet :=
  { lineClaim := quietReq, hostClaim := false, state := if quietReq then .silent else .opened, timer := 0, ack := quietReq }

/-- A segment as the radio sends it: at the position's class, from its start offset, header, payload and check (R24, R92, R93).
-/
def segmentOnAir (p : Position) (kind : Nat) (payload : List Byte) (seq : Seq) (rep : Bool) (ack : Option Seq) : RadioBurst :=
  { bytes := segmentBytes p.car kind payload seq rep ack, cls := p.cls, begins := p.start
    ends := p.start + (6 + (payload.length + 8) * p.cls.auPerByte) }

/-! ### Frames -/

/-- A request row whose lists fit their 1-byte counts, and whose SET body has its group's size. -/
def bodyFits : Instr → Prop
  | .set _ g fields => ∀ grp, Group.ofCode g.toNat = some grp → fields.length = grp.size
  | .setOrder _ list => list.length ≤ 255
  | .send _ _ _ payload _ _ => payload.length ≤ 255
  | .broadcast _ payload _ _ => payload.length ≤ 255
  | _ => True

/-- A chain frame that the part can send: hop count 0 in a handover frame, 1 to 64 payload bytes in a PASS frame. -/
def sendable (f : ChainFrame) : Prop :=
  match f.body with
  | .pass b => 1 ≤ b.payload.length ∧ b.payload.length ≤ 64
  | _ => f.hop = 0

/-! ### When a command is taken -/

/-- The part is out of reset and nothing is due at once, so that a command is taken in the state as it stands. -/
structure State.Quiescent (s : State) : Prop where
  running : s.inReset = false
  noRound : s.roundDue = false
  noBroadcast : s.broadcastSpent = false

/-- A request row is the next to be taken: nothing is due, the row is one its frame spells, and that frame is the oldest
request in the buffer not yet taken (R164). -/
structure State.Takes (s : State) (c : Instr) : Prop where
  quiescent : s.Quiescent
  request : (requestOf c).isSome = true
  spelled : soundRequest c = true
  next : s.control.waiting = some (rowRequest c)

/-- A round start is due and nothing else is: the part is out of reset, no spent broadcast stands at the head, and a round
begins at once (R15). -/
structure State.StartsRound (s : State) : Prop where
  running : s.inReset = false
  due : s.roundDue = true
  noBroadcast : s.broadcastSpent = false

/-- The reply that a request row's request is given (R163, R165). -/
def replyTo (c : Instr) (x : Status) (body : List Byte) : Reply :=
  { kind := replyKind (rowRequest c).kind, tag := (rowRequest c).tag, status := x, body := body, busy := false }

/-- A state once the request of a row has been taken and answered, and nothing else has changed. -/
def State.answered (s : State) (c : Instr) (x : Status) (body : List Byte) : State :=
  { s with control := s.control.answer (replyTo c x body) }

/-- A command that what is due at once comes before: neither one of the two of the reset, nor the round start or a row of it
(log 9). -/
def waitsForDue : Instr → Bool
  | .fullReset .. | .resetAsserted | .roundStart | .offerTimerExpiry _ | .moveTimerExpiry _ | .arrivalTimerExpiry _
  | .confirmTimerExpiry _ | .barExpiry _ | .commandExpiry _ | .broadcastDone => false
  | _ => true

/-! ### Slots and windows -/

/-- A slot that is about to begin: its round in progress, its position neither begun nor closed (R24). -/
structure State.SlotDue (s : State) (k : Fin 24) (p : Position) : Prop where
  quiescent : s.Quiescent
  inProgress : s.engine.inProgress = true
  position : s.engine.plan.positions[k.val]? = some p
  fresh : p.started = false ∧ p.closed = false

/-- A window that is about to close (R24): of the plan in force, or of one of the two before it (R23, R142; log 18). -/
structure State.WindowDue (s : State) (ago : Fin 3) (k : Fin 24) (p : Position) : Prop where
  quiescent : s.Quiescent
  position : (s.engine.planOf ago).positions[k.val]? = some p
  yetToClose : p.closed = false

/-- A burst that is heard in the window of a position: its check passed, it reads as `b`, and it names the position's car
(R42, R67, R68). -/
structure Position.Hears (p : Position) (bytes : List Byte) (b : Burst) : Prop where
  live : p.stale = false
  reads : Burst.read bytes = some b
  car : b.car = p.car

/-- A heard burst is accepted: within the granted allowance, of the length it says, neither empty nor a join, and not the last
sequence again (R67 to R71). -/
structure Entry.Accepts (e : Entry) (b : Burst) : Prop where
  allowed : b.length ≤ codeBytes e.granted
  whole : b.length = b.received
  carries : b.length ≠ 0 ∧ b.kind ≠ 62
  new : e.lastSeq ≠ some b.seq

/-- Where the filter table sends a burst: the destination of the first enabled entry whose kinds and car match, else queue 0
(R74). -/
def State.routeOf (s : State) (b : Burst) : Destination :=
  ((s.image.filter.find? fun f => decide (f.enable = true ∧ f.low ≤ b.kind ∧ b.kind ≤ f.high ∧
    (f.car = 0 ∨ f.car = b.car))).map FilterEntry.dest).getD (.queue 0)

/-- The record of an accepted burst, before a queue cuts it to its storage size (R79, R52). -/
def State.recordOf (s : State) (round : RoundNumber) (p : Position) (b : Burst) (margin corrections : Nat) : Record :=
  { car := b.car, kind := byteOf b.kind, received := b.length, stamp := round.truncate 16, offset := p.start
    margin := byteOf (min margin 63), corrections := byteOf (min corrections 15), truncated := false, relayed := false
    survey := false, origin := s.image.node.node, payload := b.payload }

/-- The places of a pattern at which an echo differs or has no byte (R158). -/
def echoByteErrors (pattern echo : List Byte) : Nat :=
  ((List.range pattern.length).filter fun i => echo[i]? != pattern[i]?).length

/-- The bit errors of an echo against a pattern, 8 for a byte that is missing (R158). -/
def echoBitErrors (pattern echo : List Byte) : Nat :=
  ((List.range pattern.length).map fun i =>
    match echo[i]? with
    | none => 8
    | some x => ((List.range 8).filter fun j => x.getLsbD j != (pattern.getD i 0).getLsbD j).length).sum

/-- The survey report of a window, before the survey queue cuts it to its storage size (R159). -/
def State.surveyReportOf (s : State) (round : RoundNumber) (p : Position) (pattern echo : List Byte)
    (margin corrections : Nat) : Record :=
  { car := p.car, kind := 63, received := 5, stamp := round.truncate 16, offset := p.start
    margin := byteOf margin, corrections := byteOf corrections, truncated := false, relayed := false, survey := true
    origin := s.image.node.node
    payload := [byteOf pattern.length, byteOf echo.length, byteOf (echoByteErrors pattern echo)]
      ++ halfBytes (echoBitErrors pattern echo) }

end Sys2Proof.Machine
end

