-- ==== Sys2Proof/Certificates/Slice0/Obligations.lean ====
section
/-!
DEFINITION. The statements for the provers: what the machine is, what every step keeps, what the encodings keep, and what each
command does when it is taken.
-/
open Sys2Proof Sys2Proof.Machine

/-! ### The machine -/

/-- A step runs the command at the front of the queue with the queue's rest; on an empty queue it takes the next arrival, a byte
by its receiver or a command into the queue, and with nothing arriving the part idles, which is the model's choice (log 20).
Every command answers a next state, and none touches the queue of the waiting commands or what arrives behind it. -/
def Obligations.StepRunsFrontCommand : Prop :=
  (∀ (c : Instr) (s : State), step { s with pending := c :: s.pending } = exec c s) ∧
  (∀ (a : Arrival) (s : State), s.pending = [] → step { s with arrivals := a :: s.arrivals } = .next (takeArrival a s)) ∧
  (∀ s : State, s.pending = [] → s.arrivals = [] → step s = .next s) ∧
  ∀ (c : Instr) (s : State), ∃ t, exec c s = .next t ∧ t.pending = s.pending ∧ t.arrivals = s.arrivals

/-- A command taken while a broadcast is spent or a round start is due finds that done first: the spent broadcast is removed with
BROADCAST_DONE, the round start has its whole effect, and then the command is had. That what is due "at once" comes before any
other command is the model's reading (log 9). -/
def Obligations.DueWorkComesFirst : Prop :=
  ∀ (c : Instr) (s : State), waitsForDue c = true → s.inReset = false →
    (∀ b bs, s.broadcasts = b :: bs → b.repeats = 0 → (∀ x xs, bs = x :: xs → x.repeats ≠ 0) →
      exec c s = exec c (notify (.broadcastDone b.id) { s with broadcasts := bs })) ∧
    (s.StartsRound → ∃ t, exec .roundStart s = .next t ∧ t.roundDue = false ∧
      (t.broadcastSpent = false → exec c s = exec c t) ∧
      ∀ b bs, t.broadcasts = b :: bs → b.repeats = 0 → (∀ x xs, bs = x :: xs → x.repeats ≠ 0) →
        exec c s = exec c (notify (.broadcastDone b.id) { t with broadcasts := bs }))

/-- The state right after a full reset meets every bound and agreement that the steps keep. -/
def Obligations.ResetStateIsSafe : Prop := State.reset.Safe

/-! ### What every step keeps -/

/-- The order table holds every slotted index exactly once and no other (R30), whatever the command. -/
def Obligations.StepKeepsOrderTable : Prop := ∀ s t : State, s.OrderExact → step s = .next t → t.OrderExact

/-- The order-table airtime never exceeds the round period (R6): no admission, arrival, class change or SET breaks the fit
rule. -/
def Obligations.StepKeepsRoundFits : Prop := ∀ s t : State, s.RoundFits → step s = .next t → t.RoundFits

/-- No car number is held by two entries, and every entry that is not FREE holds one (R29). -/
def Obligations.StepKeepsCarsDistinct : Prop := ∀ s t : State, s.CarsDistinct → step s = .next t → t.CarsDistinct

/-- A position that is not stale always serves the car it was made for, in the plan in force and in the two before it (log 18). -/
def Obligations.StepKeepsPlanServed : Prop := ∀ s t : State, s.PlanServed → step s = .next t → t.PlanServed

/-- An entry has a peer and a phase timer exactly in OFFERING, MOVING and ARRIVING, and a move target exactly in MOVING; a peer
is a configured neighbour (R107). A node with neither neighbour configured holds no candidate (R59). -/
def Obligations.StepKeepsHandoverFields : Prop :=
  (∀ s t : State, ((∀ i : Index, (s.entry i).HandoverFields) ∧ s.PeersNeighbours) → step s = .next t →
    (∀ i : Index, (t.entry i).HandoverFields) ∧ t.PeersNeighbours) ∧
  ∀ s t : State, s.CandidatesAllowed → step s = .next t → t.CandidatesAllowed

/-- While QUIET_ACK is asserted nothing is on the air and no round is in progress; QUIET_ACK is asserted in SILENT only, and
SILENT stands only while a claim is held. -/
def Obligations.StepKeepsQuietSound : Prop := ∀ s t : State, s.QuietSound → step s = .next t → t.QuietSound

/-- The control link keeps its bounds, a frame is being received only while the busy list has room, and every request taken and
every refusal has exactly one reply made and not yet sent to its last byte (R164, R165). -/
def Obligations.StepKeepsControlAccounted : Prop :=
  ∀ s t : State, s.control.Accounted → step s = .next t → t.control.Accounted

/-- Every receive queue stays within its depth and storage size, and the four within the record store (R77 to R82). -/
def Obligations.StepKeepsRecordStore : Prop := ∀ s t : State, s.RecordStoreHeld → step s = .next t → t.RecordStoreHeld

/-- The command pool stays within its bounds, and only the head of a list is outstanding (R87, R88). With that, the commands of the
pool have numbers from 1 to 65,535, no two alike, the broadcasts of the queue ids from 1 to 255, no two alike, and neither the next
command number nor the next broadcast id is ever 0 (R87, R90, R102). An outstanding command was sent, and no slot names a command of
the pool that was not: a command that takes the number of one gone is not the one its slot carried (R87, R94). -/
def Obligations.StepKeepsCommandPool : Prop :=
  (∀ s t : State, s.PoolHeld → step s = .next t → t.PoolHeld) ∧
  ∀ s t : State, s.PoolHeld → s.NumbersHeld → step s = .next t → t.NumbersHeld

/-- The join answer list, the bar list, the broadcast queue and the grace count keep their bounds (R41, R43, R47, R102). Each chain
port keeps its bounds, a DOWN port's queues stay empty, no frame waits while fill is sent, and its counters stay in range (R131 to
R133, R137). -/
def Obligations.StepKeepsListsAndPorts : Prop :=
  (∀ s t : State, s.ListsHeld → step s = .next t → t.ListsHeld) ∧
  ∀ s t : State, s.ports.up.Held ∧ s.ports.down.Held → step s = .next t → t.ports.up.Held ∧ t.ports.down.Held

/-! ### Encodings -/

/-- The body of every request row reads back as that row, every operand at every value (R180). A control-link frame as it is sent
reads back, after its sync byte, as the arrival of its kind, tag and body, and no other bytes read as that arrival (R162). -/
def Obligations.RequestsReadBack : Prop :=
  (∀ (c : Instr) (r : Request), requestOf c = some r → bodyFits c →
    readRequest (momentOf c) r.kind r.tag r.body = some c) ∧
  ∀ (kind tag : Byte) (body : List Byte), body.length ≤ maxBody →
    controlCommand (controlFrameBytes kind tag body).tail = .requestReceived kind tag body ∧
    ∀ bytes, controlCommand bytes = .requestReceived kind tag body → bytes = (controlFrameBytes kind tag body).tail

/-- A chain frame as it is sent reads back at the neighbour, after its sync byte, as the same frame, and a frame that reads as
it is the same bytes (R129, 12.2). -/
def Obligations.ChainFrameReadsBack : Prop :=
  ∀ f : ChainFrame, sendable f →
    readChainFrame (chainFrameBytes f).tail = some f ∧
    ∀ bytes, readChainFrame bytes = some f → bytes = (chainFrameBytes f).tail

/-- The receivers of the three lines, byte by byte: while hunting every byte but the sync byte is discarded, a bad length ends the
frame at once, any other frame ends with its check bytes, and a frame that ended is the command it reads as, or a bad frame when
one of its bytes had a bad stop bit; a byte with a good stop bit brings a DOWN port UP; in reset every byte is lost; the control
link starts no frame while its busy list holds 8 refusals or a RESTART is under way (R128, R129, R161, R162, R164, R169). That a
sync byte with a bad stop bit starts a frame, and that the frame's command is taken next, is the model's reading (log 3). -/
def Obligations.BytesBecomeFrames : Prop :=
  (∀ (l : Line) (b : LineByte) (s : State), s.inReset = true → receiveByte l b s = s) ∧
  (∀ s : State, s.inReset = false →
    let k := fun (r : List LineByte) (more : List Instr) =>
      { s with control := { s.control with receiver := .inside r }, pending := s.pending ++ more }
    (∀ b : LineByte, s.control.receiver = .hunting → receiveByte .control b s =
      if b.value = 0xC3 ∧ s.control.busy.length < 8 ∧ s.control.restarting = false then k [b] [] else s) ∧
    (∀ s0 b, s.control.receiver = .inside [s0] → receiveByte .control b s = k [s0, b] []) ∧
    (∀ s0 l0 b, s.control.receiver = .inside [s0, l0] → receiveByte .control b s =
      k [s0, l0, b] (if l0.value.toNat + 256 * b.value.toNat < 2 ∨ 300 < l0.value.toNat + 256 * b.value.toNat then
        [.controlBadFrame] else [])) ∧
    (∀ s0 l0 l1 rest b, s.control.receiver = .inside (s0 :: l0 :: l1 :: rest) →
      let l := l0.value.toNat + 256 * l1.value.toNat
      let all := s0 :: l0 :: l1 :: rest ++ [b]
      2 ≤ l → l ≤ 300 → receiveByte .control b s = k all (if rest.length + 1 < l + 2 then []
        else if ∀ x ∈ all, x.stop = true then [controlCommand (all.tail.map LineByte.value)] else [.controlBadFrame])) ∧
    (∀ kind tag body, body.length ≤ 298 → s.control.receiver = .hunting → s.control.busy.length < 8 →
      s.control.restarting = false →
      let sent := (controlFrameBytes kind tag body).map fun v => { value := v, stop := true }
      sent.foldl (fun t b => receiveByte .control b t) s = k sent [.requestReceived kind tag body])) ∧
  ∀ (p : PortId) (s : State), s.inReset = false →
    let x := s.port p
    let k := fun (b : LineByte) (r : Receiver) (more : List Instr) =>
      { s.setPort p { x with receiver := r } with
        pending := s.pending ++ (if b.stop = true ∧ x.isUp = false then [.portUp p] else []) ++ more }
    (∀ b : LineByte, x.receiver = .hunting → receiveByte (.chain p) b s =
      k b (if b.value = 0xA7 then .inside [b] else .hunting) []) ∧
    (∀ s0 b, x.receiver = .inside [s0] → receiveByte (.chain p) b s = k b (.inside [s0, b])
      (if b.value.toNat < 4 ∨ 78 < b.value.toNat then [.chainBadFrame p] else [])) ∧
    (∀ s0 l0 rest b, x.receiver = .inside (s0 :: l0 :: rest) → 4 ≤ l0.value.toNat → l0.value.toNat ≤ 78 →
      let all := s0 :: l0 :: rest ++ [b]
      receiveByte (.chain p) b s = k b (.inside all) (if rest.length + 1 < l0.value.toNat + 2 then []
        else if ∀ y ∈ all, y.stop = true then [chainCommand p (all.tail.map LineByte.value)]
        else [.chainBadFrame p])) ∧
    ∀ f : ChainFrame, sendable f → x.receiver = .hunting → x.isUp = true →
      let sent := (chainFrameBytes f).map fun v => { value := v, stop := true }
      sent.foldl (fun t b => receiveByte (.chain p) b t) s =
        { s.setPort p { x with receiver := .inside sent } with pending := s.pending ++ [match f.body with
          | .offer b => .offerReceived p f.src f.dst b
          | .accept b => .acceptReceived p f.src f.dst b
          | .refuse c r => .refuseReceived p f.src f.dst c r
          | .cancel c => .cancelReceived p f.src f.dst c
          | .done c => .doneReceived p f.src f.dst c
          | .pass b => .passReceived p f.src f.dst f.hop b] }

/-- The page that a SAVE writes of a valid image loads as that image (R174, R177); its coding is the model's (log 6). A SAVE of a
valid image in which every byte verifies at its first program ends VALID with STORE_DONE, and the full reset after it starts up
with that image in force, LOADED (R175, R177). No other page loads: not one with another check word, another format number, a field
out of its range, or a condition that fails, nor one not programmed to its last byte, which is log 7 (R176, R177). -/
def Obligations.SavedImageIsLoaded : Prop :=
  (∀ i : Settings, i.Valid → loadPage i.pageBytes = some i) ∧
  (∀ (page : List Byte) (i : Settings), loadPage page = some i → i.Valid ∧ page = i.pageBytes) ∧
  (∀ (body : List Byte) (w : Half), w ≠ checkWord body → loadPage (body ++ halfBytes w.toNat) = none) ∧
  (∀ (a b : Byte) (body : List Byte), [a, b] ≠ [1, 0] → loadPage (withCheck (a :: b :: body)) = none) ∧
  (∀ vs : Group → List Nat, (∀ g, (vs g).length = g.count) → (∀ g k v, (vs g)[k]? = some v → v < 256 ^ g.width k) →
    let page := withCheck (halfBytes 1 ++
      [Group.node, .round, .roster, .link, .handover, .downlink, .queues, .filter, .pattern].flatMap fun g =>
        joinFields g.fields (vs g))
    ((∃ g k v, (vs g)[k]? = some v ∧ ¬ g.allows k v) → loadPage page = none) ∧
    ((∀ g k v, (vs g)[k]? = some v → g.allows k v) → ∀ i : Settings, (∀ g, i.values g = vs g) →
      (∃ g k, i.crossFailure g = some k) ∨ 8192 < i.queues.budget ∨
        i.round.period < 240 + i.round.g1 + 80 * i.round.joinSlots + i.round.g2 →
      loadPage page = none)) ∧
  ∀ (i : Settings) (s : State), i.Valid → s.inReset = false →
    s.store.job = some { copy := i.pageBytes, erasing := false, offset := 0, failed := 0 } →
    let u := i.pageBytes.foldl (fun t b => programmed b t) s
    u = notify .storeDone { s with store := { s.store with page := i.pageBytes, state := .valid, job := none } } ∧
    ∀ cause straps q, ∃ t, exec (.fullReset cause straps q) u = .next t ∧ t.image = i ∧ t.live = i.liveGroups ∧
      t.store.state = .valid ∧ t.store.source = .loaded

/-! ### Resets (11.4, R169) -/

/-- FULL_RESET reads the straps, loads the page or takes the factory defaults, gives every block its values, queues READY first
of all notices, goes SILENT if QUIET_REQ is asserted, and takes START if autostart asks for it (R177, R148). -/
def Obligations.FullResetStartsUp : Prop :=
  ∀ (cause : ResetCause) (straps : Straps) (q : Bool) (s : State), ∃ t, exec (.fullReset cause straps q) s = .next t ∧
    t.inReset = false ∧ t.control.straps = straps ∧ t.store.page = s.store.page ∧ t.store.job = none ∧
    t.image = (loadPage s.store.page).getD Settings.default ∧
    t.store.state = (if (loadPage s.store.page).isSome then .valid else .invalid) ∧
    t.store.source = (if (loadPage s.store.page).isSome then .loaded else .defaults) ∧
    t.live = t.image.liveGroups ∧ t.unapplied = Unapplied.none ∧ t.Fresh ∧
    t.control.line = some (.notice (.ready (readyCauseOf cause) t.store.source)) ∧
    t.control.notices = (if q then [.quietBegin true false] else []) ∧
    t.quiet = startUpQuiet q ∧ t.engine.state = startUpEngine t.image ∧
    t.engine.resumePending = decide (startUpEngine t.image ≠ .stopped)

/-- RESTART: BUSY while a SAVE is under way; otherwise OK, every request waiting behind it answered BUSY without being taken, and
from then on the receiver starts no frame. RESTART_TAKES_EFFECT, once the replies are sent and the line is idle, gives every block
its values and starts up with the straps, the settings, the pending ones included, and the store kept (R169, R178). That the
waiting requests are answered in their own places of the buffer, and that a frame still being received does not hold the restart
back, is log 23, and that RESTART_TAKES_EFFECT does nothing before its premise stands is log 8. -/
def Obligations.RestartRuns : Prop :=
  (∀ (tag : Byte) (s : State), s.Takes (.restart tag) →
    (s.store.state = .saving → exec (.restart tag) s = .next (s.answered (.restart tag) .busy [])) ∧
    (s.store.state ≠ .saving → ∃ t, exec (.restart tag) s = .next t ∧ t = { s with control := t.control } ∧
      t.control.restarting = true ∧ t.control.receiver = s.control.receiver ∧ (∀ b ∈ t.control.buffer, b.taken = true) ∧
      t.control.buffer.map BufferedRequest.request = s.control.buffer.map BufferedRequest.request ∧
      t.control.notices = s.control.notices ∧ t.control.busy = s.control.busy ∧
      t.control.outstanding = s.control.outstanding ++ replyTo (.restart tag) .ok [] ::
        ((markTaken s.control.buffer).filter fun b => !b.taken).map fun b => busyReply b.request)) ∧
  (∀ (q : Bool) (s : State), s.Quiescent → s.control.restartReady = true →
    ∃ t, exec (.restartTakesEffect q) s = .next t ∧
      t.inReset = false ∧ t.control.straps = s.control.straps ∧ t.store = s.store ∧ t.image = s.image ∧ t.live = s.live ∧
      t.unapplied = s.unapplied ∧ t.Fresh ∧
      t.control.line = some (.notice (.ready .restart s.store.source)) ∧
      t.control.notices = (if q then [.quietBegin true false] else []) ∧
      t.quiet = startUpQuiet q ∧ t.engine.state = startUpEngine s.image ∧
      t.engine.resumePending = decide (startUpEngine s.image ≠ .stopped)) ∧
  ∀ (q : Bool) (s : State), s.Quiescent → s.control.restartReady = false → exec (.restartTakesEffect q) s = .next s

/-- RESET_ASSERTED silences the radio, the chain transmitters and the control-link transmitter, deasserts QUIET_ACK, loses the
replies and notices not yet sent and the frames partly received, and stops a SAVE where it stands (R161, R170, R176, R177). What
the store state is then, and that every command but the two of the reset leaves the whole state as it is until start-up, is the
model's reading (log 25). -/
def Obligations.ResetHoldsPart : Prop :=
  (∀ s : State, ∃ t, exec .resetAsserted s = .next t ∧
    t.inReset = true ∧ t.engine.radio = none ∧ t.ports.up.line = none ∧ t.ports.down.line = none ∧ t.quiet.ack = false ∧
    t.control.line = none ∧ t.control.replies = [] ∧ t.control.notices = [] ∧ t.control.buffer = [] ∧ t.control.busy = [] ∧
    t.control.receiver = .hunting ∧ t.ports.up.receiver = .hunting ∧ t.ports.down.receiver = .hunting ∧
    t.store.job = none ∧ t.store.page = s.store.page ∧ t.store.state ≠ .saving ∧ t.image = s.image) ∧
  ∀ (c : Instr) (s : State), s.inReset = true → c ≠ .resetAsserted →
    (∀ cause straps q, c ≠ .fullReset cause straps q) → exec c s = .next s

/-! ### The control link (10) -/

/-- REQUEST_RECEIVED: a frame that the receiver started joins the buffer of 4, or is refused BUSY when that is full or a RESTART
is under way; one that is too long is bad. CONTROL_BAD_FRAME and CONTROL_GAP_TIMEOUT discard a bad frame and count it. A frame that
the receiver did not start, its busy list holding 8 refusals or a RESTART being under way, is lost without a count (R162, R164,
R169). That the frame under way at a RESTART is answered BUSY through the busy list is the model's reading (log 23). -/
def Obligations.ReceivedFramesSorted : Prop :=
  ∀ (kind tag : Byte) (body : List Byte) (s : State), s.Quiescent →
    let k := s.control
    let bad : State := { s with control := { k with receiver := .hunting, badFrames := min (k.badFrames + 1) 65535 } }
    (k.receiver ≠ .hunting ∨ (k.busy.length < 8 ∧ k.restarting = false) →
      (body.length ≤ 298 → k.restarting = false → k.buffer.length < 4 →
        exec (.requestReceived kind tag body) s = .next { s with control := { k with
          receiver := .hunting
          buffer := k.buffer ++ [{ request := { kind := kind, tag := tag, body := body }, taken := false }] } }) ∧
      (body.length ≤ 298 → k.restarting = true ∨ 4 ≤ k.buffer.length → k.busy.length < 8 →
        ∃ t, exec (.requestReceived kind tag body) s = .next t ∧ t = { s with control := t.control } ∧
          t.control.receiver = .hunting ∧ t.control.restarting = k.restarting ∧ t.control.badFrames = k.badFrames ∧
          t.control.buffer = k.buffer ∧ t.control.notices = k.notices ∧
          t.control.busy = k.busy ++ [{ kind := kind, tag := tag }] ∧
          t.control.outstanding = k.outstanding ++
            [{ kind := replyKind kind, tag := tag, status := .busy, body := [], busy := true }]) ∧
      (298 < body.length → exec (.requestReceived kind tag body) s = .next bad) ∧
      exec .controlBadFrame s = .next bad ∧ exec .controlGapTimeout s = .next bad) ∧
    (k.receiver = .hunting → 8 ≤ k.busy.length ∨ k.restarting = true →
      ∀ c ∈ [Instr.requestReceived kind tag body, .controlBadFrame, .controlGapTimeout], exec c s = .next s)

/-- BAD_REQUEST: a frame with tag 0, an unknown kind or a body of a wrong size passes through the buffer, is answered
BAD_REQUEST with its tag and kind + 0x80 (0x80 for an unknown kind), and changes nothing (R163). A request row whose frame is not
in the buffer is that frame's arrival followed by the row (R164; the model's reading, log 19). -/
def Obligations.RequestsArriveAndAnswer : Prop :=
  (∀ (kind tag : Byte) (body : List Byte) (s : State), s.Quiescent →
    badRequestFrame { kind := kind, tag := tag, body := body } = true →
    s.control.waiting = some { kind := kind, tag := tag, body := body } →
    let reply : Reply :=
      { kind := if 1 ≤ kind.toNat ∧ kind.toNat ≤ 0x18 then kind + 0x80 else 0x80, tag := tag, status := .badRequest, body := []
        busy := false }
    exec (.badRequest kind tag body) s = .next { s with control := s.control.answer reply }) ∧
  ∀ (c : Instr) (s : State), s.Quiescent → (requestOf c).isSome = true → soundRequest c = true →
    s.control.restarting = false → s.control.busy.length < 8 → s.control.buffer.length < 4 → s.control.waiting = none →
    exec c s = exec c { s with control := { s.control with
      receiver := .hunting, buffer := s.control.buffer ++ [{ request := rowRequest c, taken := false }] } }

/-- STATUS, PLAN, ROSTER and COUNTS answer OK with what they read, in every engine, quiet and store state, and change nothing else; a
part, scope or index they do not know is refused BAD_VALUE; and what each reply carries, field by field (R26, R49, R151, R168). The
order of the fields is log 15, the widths that R180 does not name are log 32, and a PLAN of 24 positions, longer than a frame, is log
16. The order of like counts among themselves in STATUS, and the codes of its claims and of PLAN's stale positions, are log 37. -/
def Obligations.ReadingRequestsOnlyReply : Prop :=
  (∀ tag (s : State), s.Takes (.status tag) → exec (.status tag) s = .next (s.answered (.status tag) .ok s.statusBytes)) ∧
  (∀ tag (s : State), s.Takes (.plan tag) → exec (.plan tag) s = .next (s.answered (.plan tag) .ok s.planBytes)) ∧
  (∀ tag first (s : State), s.Takes (.roster tag 0 first) → first.toNat ≤ 23 → exec (.roster tag 0 first) s =
    .next (s.answered (.roster tag 0 first) .ok (byteOf (min 8 (24 - first.toNat)) ::
      ((indices.drop first.toNat).take 8).flatMap fun i => (s.entry i).rosterBytes i))) ∧
  (∀ tag first (s : State), s.Takes (.roster tag 1 first) →
    exec (.roster tag 1 first) s = .next (s.answered (.roster tag 1 first) .ok s.listsBytes)) ∧
  (∀ tag part first (s : State), s.Takes (.roster tag part first) → 2 ≤ part.toNat ∨ (part = 0 ∧ 24 ≤ first.toNat) →
    exec (.roster tag part first) s = .next (s.answered (.roster tag part first) .badValue [])) ∧
  (∀ tag index (s : State), s.Takes (.counts tag 0 index) → exec (.counts tag 0 index) s =
    .next (s.answered (.counts tag 0 index) .ok (0 ::
      (s.counters.toList ++ s.ports.up.counters.toList ++ s.ports.down.counters.toList).flatMap halfBytes))) ∧
  (∀ tag (i : Index) (s : State), s.Takes (.counts tag 1 (byteOf i.val)) → exec (.counts tag 1 (byteOf i.val)) s =
    .next (s.answered (.counts tag 1 (byteOf i.val)) .ok (1 :: (s.entry i).countBytes i))) ∧
  (∀ tag scope index (s : State), s.Takes (.counts tag scope index) → 2 ≤ scope.toNat ∨ (scope = 1 ∧ 24 ≤ index.toNat) →
    exec (.counts tag scope index) s = .next (s.answered (.counts tag scope index) .badValue [])) ∧
  (∀ s : State, s.statusBytes =
    [byteOf s.engine.state.code] ++ roundBytes s.engine.round
      ++ [byteOf s.quiet.state.code, flagByte s.quiet.lineClaim, flagByte s.quiet.hostClaim] ++ halfBytes s.quiet.timer
      ++ ([EntryState.free, .pending, .joining, .active, .offering, .moving, .arriving].map fun x =>
        byteOf (indices.filter fun i => decide ((s.entry i).state = x)).length)
      ++ [byteOf (indices.map fun i => (s.entry i).commands.length).sum, byteOf s.broadcasts.length]
      ++ ((List.finRange 4).flatMap fun q => [byteOf (s.rx q).records.length, byteOf (s.rx q).lost])
      ++ [flagByte s.ports.up.isUp, flagByte s.ports.down.isUp, byteOf s.store.state.code]
      ++ halfBytes s.control.badFrames ++ halfBytes s.control.noticesLost) ∧
  (∀ s : State, let r := s.image.round
    let fixed := 240 + r.g1 + 80 * r.joinSlots + r.g2
    let airtime := fixed + (s.order.map fun i => (6 + (codeBytes r.pd + 8) * (s.entry i).rate.auPerByte) +
      (6 + (codeBytes (s.entry i).granted + 10) * (s.entry i).rate.auPerByte) + 10).sum
    s.planBytes =
      [byteOf s.engine.state.code] ++ roundBytes s.engine.plan.round ++ [byteOf s.engine.plan.positions.length]
        ++ (s.engine.plan.positions.flatMap fun p => [byteOf p.index.val] ++ carBytes p.car ++ [byteOf p.cls.code]
          ++ halfBytes p.start ++ halfBytes p.d ++ halfBytes p.u ++ [flagByte p.stale])
        ++ halfBytes r.period ++ halfBytes fixed ++ halfBytes airtime ++ halfBytes (r.period - airtime)) ∧
  (∀ s : State, s.listsBytes =
    [byteOf s.order.length] ++ (s.order.map fun i => byteOf i.val)
      ++ [byteOf s.answers.length] ++ (s.answers.flatMap fun a => carBytes a.car ++ a.result.bytes)
      ++ [byteOf s.bars.length] ++ (s.bars.flatMap fun b => carBytes b.car ++ halfBytes b.rounds)
      ++ [byteOf s.live.roster.admission.code, byteOf s.grace]) ∧
  (∀ (i : Index) (e : Entry),
    let known := [byteOf i.val, byteOf e.state.code] ++ carBytes e.car ++ roundBytes e.lastHeard
    (e.state = .free → e.rosterBytes i = [byteOf i.val, byteOf e.state.code]) ∧
    (e.state = .pending →
      e.rosterBytes i = known ++ [byteOf e.requested.toNat, byteOf e.joinSample, byteOf e.confirmTimer]) ∧
    (e.state.slotted = true → e.rosterBytes i = known
      ++ [byteOf e.granted.toNat, byteOf e.rate.code, byteOf e.wantedRate.code, flagByte e.rateHeld, byteOf e.score,
          byteOf e.missed, flagByte e.survey]
      ++ e.peer.toList ++ (e.phaseTimer.map byteOf).toList ++ [byteOf e.commands.length])) ∧
  ∀ (i : Index) (e : Entry), e.countBytes i =
    [byteOf i.val, byteOf e.state.code] ++ carBytes e.car ++ halfBytes e.good ++ halfBytes e.failed ++ halfBytes e.corrected
      ++ [byteOf e.upCount, e.candidate.getD 0, byteOf e.nbrScore, byteOf e.leadCount]

/-- CONTROL_FRAME_SENT: a reply sent frees its request's place in the buffer, or its refusal's place in the busy list; the
transmitter then takes the next reply, else the next notice, which makes NOTICES_LOST in the freed place when notices were
lost, else it rests (R165 to R167). -/
def Obligations.FrameSentTakesNext : Prop :=
  ∀ (f : LineFrame) (s : State), s.Quiescent → s.control.line = some f →
    ∃ t, exec .controlFrameSent s = .next t ∧ t = { s with control := t.control } ∧
      t.control.buffer = (match f with
        | .reply r => if r.busy then s.control.buffer else s.control.buffer.tail
        | .notice _ => s.control.buffer) ∧
      t.control.busy = (match f with
        | .reply r => if r.busy then s.control.busy.tail else s.control.busy
        | .notice _ => s.control.busy) ∧
      (∀ r rs, s.control.replies = r :: rs → t.control.line = some (.reply r) ∧ t.control.replies = rs ∧
        t.control.notices = s.control.notices) ∧
      (s.control.replies = [] → s.control.restarting = false → ∀ n ns, s.control.notices = n :: ns →
        t.control.line = some (.notice n) ∧ t.control.noticesLost = 0 ∧
        t.control.notices = ns ++ (if 0 < s.control.noticesLost then [.noticesLost s.control.noticesLost] else [])) ∧
      (s.control.replies = [] → s.control.notices = [] ∨ s.control.restarting = true → t.control.line = none)

/-! ### Settings and store (11) -/

/-- SET, decided by the first line of R172's table that applies: the refusals change nothing; an accepted SET of a live group is held
as pending, one of NODE or FILTER is in force at once; and what the tests are: when a group may change, the number, the widths and the
ranges of its fields, the conditions that span fields with the field that each names, the order-table airtime and the record store
budget (R171, R172, R76, R77, R6); the image then holds the values of the SET and, of the other groups, its own. That a SET of NODE
which leaves no neighbour configured clears every candidate (R59) is log 34, and that one which fails both spanning conditions names
field 3 is log 33. -/
def Obligations.SetDecidedByTable : Prop :=
  (∀ (g : Group) (s : State), s.mayChange g = true ↔
    (g = .node → s.engine.state = .stopped ∧ ∀ i : Index,
      (s.entry i).state ≠ .offering ∧ (s.entry i).state ≠ .moving ∧ (s.entry i).state ≠ .arriving) ∧
    (g = .round ∨ g = .queues → s.engine.state = .stopped)) ∧
  (∀ g : Group, g.fields.length = g.count ∧ (∀ (k : Nat) (f : FieldSpec), g.fields[k]? = some f → f.width = g.width k) ∧
    ∀ bytes : List Byte, (splitFields g.fields bytes).length = g.count) ∧
  (∀ (g : Group) (vs : List Nat), vs.length = g.count →
    (firstBadField g.fields vs = none ↔ ∀ k v, vs[k]? = some v → g.allows k v) ∧
    ∀ k, firstBadField g.fields vs = some k ↔
      (∃ v, vs[k]? = some v ∧ ¬ g.allows k v) ∧ ∀ j v, j < k → vs[j]? = some v → g.allows j v) ∧
  (∀ (g : Group) (bytes : List Byte) (i : Settings), firstBadField g.fields (splitFields g.fields bytes) = none →
    (i.withValues g (splitFields g.fields bytes)).values g = splitFields g.fields bytes ∧
    ∀ h, h ≠ g → (i.withValues g (splitFields g.fields bytes)).values h = i.values h) ∧
  (∀ i : Settings, let n := i.node
    (n.upNeighbour = n.downNeighbour → n.upNeighbour ≠ 0 → i.crossFailure .node = some 3) ∧
    (n.upNeighbour ≠ n.downNeighbour → n.node ≠ 0 → n.upNeighbour = n.node → i.crossFailure .node = some 2) ∧
    (n.upNeighbour ≠ n.downNeighbour → n.node ≠ 0 → n.downNeighbour = n.node → i.crossFailure .node = some 3) ∧
    ((n.upNeighbour ≠ n.downNeighbour ∨ n.upNeighbour = 0) → (n.node = 0 ∨ (n.upNeighbour ≠ n.node ∧ n.downNeighbour ≠ n.node)) →
      i.crossFailure .node = none) ∧
    (i.link.demote < i.link.promote → i.crossFailure .link = none) ∧
    (i.link.promote ≤ i.link.demote → i.crossFailure .link = some 1) ∧
    ((∀ e ∈ i.filter, e.low ≤ e.high) → i.crossFailure .filter = none) ∧
    (∀ pre e post, i.filter = pre ++ e :: post → (∀ x ∈ pre, x.low ≤ x.high) → e.high < e.low →
      i.crossFailure .filter = some (5 * pre.length + 2)) ∧
    (∀ g, g ≠ .node → g ≠ .link → g ≠ .filter → i.crossFailure g = none) ∧
    i.queues.budget = ((List.finRange 4).map fun q =>
      i.queues.queue[q.val].depth * (16 + codeBytes i.queues.queue[q.val].storage)).sum) ∧
  (∀ (r : RoundGroup) (s : State), s.airtimeWith r = 240 + r.g1 + 80 * r.joinSlots + r.g2 +
    (s.order.map fun i => (6 + (codeBytes r.pd + 8) * (s.entry i).rate.auPerByte) +
      (6 + (codeBytes (s.entry i).granted + 10) * (s.entry i).rate.auPerByte) + 10).sum) ∧
  ∀ (tag group : Byte) (fields : List Byte) (s : State), s.Takes (.set tag group fields) →
    let c := Instr.set tag group fields
    (Group.ofCode group.toNat = none → exec c s = .next (s.answered c .badValue [0])) ∧
    ∀ g, Group.ofCode group.toNat = some g →
      let vs := splitFields g.fields fields
      let i := s.image.withValues g vs
      (s.mayChange g = false → exec c s = .next (s.answered c .badState [])) ∧
      (s.mayChange g = true → ∀ k, firstBadField g.fields vs = some k →
        exec c s = .next (s.answered c .badValue [byteOf k])) ∧
      (s.mayChange g = true → firstBadField g.fields vs = none → ∀ k, i.crossFailure g = some k →
        exec c s = .next (s.answered c .badValue [byteOf k])) ∧
      (s.mayChange g = true → firstBadField g.fields vs = none → i.crossFailure g = none → g = .round →
        i.round.period < s.airtimeWith i.round → exec c s = .next (s.answered c .noAirtime [])) ∧
      (s.mayChange g = true → firstBadField g.fields vs = none → i.crossFailure g = none → g = .queues →
        8192 < i.queues.budget → exec c s = .next (s.answered c .noRoom [])) ∧
      (s.mayChange g = true → firstBadField g.fields vs = none → i.crossFailure g = none → g ≠ .round → g ≠ .queues →
        (g ≠ .node ∨ i.node.upNeighbour ≠ 0 ∨ i.node.downNeighbour ≠ 0 →
          exec c s = .next { s.answered c .ok [] with image := i, unapplied := s.unapplied.mark g }) ∧
        (g = .node → i.node.upNeighbour = 0 → i.node.downNeighbour = 0 → ∃ t, exec c s = .next t ∧
          t = { s.answered c .ok [] with image := i, unapplied := s.unapplied, roster := t.roster } ∧
          ∀ x : Index, t.entry x = { s.entry x with candidate := none, nbrScore := 0, leadCount := 0 }))

/-- An accepted SET of ROUND puts its values in force, is answered OK and, when it lowers Pd, removes the commands that are longer,
each with UNDELIVERED, TOO_LONG (R101); one of QUEUES empties the queues whose depth or storage changes and keeps their lost counts
(R78). -/
def Obligations.SetOfRoundAndQueues : Prop :=
  ∀ (tag : Byte) (fields : List Byte) (s : State), s.engine.state = .stopped →
    (s.Takes (.set tag 1 fields) → firstBadField Group.round.fields (splitFields Group.round.fields fields) = none →
      let i := s.image.withValues .round (splitFields Group.round.fields fields)
      s.airtimeWith i.round ≤ i.round.period →
      ∃ t, exec (.set tag 1 fields) s = .next t ∧ t.image = i ∧ t.unapplied = s.unapplied ∧ t.live = s.live ∧
        t.order = s.order ∧ t.engine = s.engine ∧ t.queues = s.queues ∧
        t.control = (notifyAll (if codeBytes i.round.pd < codeBytes s.image.round.pd then
            indices.flatMap fun x => ((s.entry x).commands.filter fun k =>
              decide (codeBytes i.round.pd < k.payload.length)).map fun k =>
                .undelivered k.number (s.entry x).car .tooLong k.sent
          else []) (s.answered (.set tag 1 fields) .ok [])).control ∧
        ∀ x : Index, t.entry x =
          if codeBytes i.round.pd < codeBytes s.image.round.pd then
            { s.entry x with commands := (s.entry x).commands.filter fun k => decide (k.payload.length ≤ codeBytes i.round.pd) }
          else s.entry x) ∧
    (s.Takes (.set tag 6 fields) → firstBadField Group.queues.fields (splitFields Group.queues.fields fields) = none →
      let i := s.image.withValues .queues (splitFields Group.queues.fields fields)
      i.queues.budget ≤ 8192 →
      ∃ t, exec (.set tag 6 fields) s = .next t ∧ t.image = i ∧ t.roster = s.roster ∧ t.unapplied = s.unapplied ∧
        t.control = s.control.answer (replyTo (.set tag 6 fields) .ok []) ∧
        ∀ q : Fin 4, t.rx q =
          if (s.queueSetting q).depth = (t.queueSetting q).depth ∧ (s.queueSetting q).storage = (t.queueSetting q).storage then
            s.rx q
          else { records := [], lost := (s.rx q).lost, episode := false })

/-- GET returns, with status OK, every field of the group as the image holds it, and for a live group whether those values are pending;
a group code outside the nine is refused BAD_VALUE with field 0; GET is taken in every engine, quiet and store state and changes
nothing (R173). That the pending flag stands after the fields is log 15, and that 1 means pending is log 37. -/
def Obligations.GetReturnsImage : Prop :=
  ∀ (tag group : Byte) (s : State), s.Takes (.get tag group) →
    (∀ g, Group.ofCode group.toNat = some g → exec (.get tag group) s = .next (s.answered (.get tag group) .ok
      (joinFields g.fields (s.image.values g) ++ (match g with
        | .roster => [flagByte s.unapplied.roster]
        | .link => [flagByte s.unapplied.link]
        | .handover => [flagByte s.unapplied.handover]
        | .downlink => [flagByte s.unapplied.downlink]
        | .pattern => [flagByte s.unapplied.pattern]
        | _ => [])))) ∧
    (Group.ofCode group.toNat = none → exec (.get tag group) s = .next (s.answered (.get tag group) .badValue [0]))

/-- SAVE copies the image and begins to erase; the end of the erase begins the programming; a byte that verifies leads to the
next or to VALID and STORE_DONE; one that does not is programmed up to 4 times, and then the SAVE ends INVALID with STORE_FAULT
and its offset (R175). -/
def Obligations.SaveRunsItsSteps : Prop :=
  (∀ (tag : Byte) (s : State), s.Takes (.save tag) →
    (s.store.state = .saving → exec (.save tag) s = .next (s.answered (.save tag) .busy [])) ∧
    (s.store.state ≠ .saving → exec (.save tag) s = .next { s.answered (.save tag) .ok [] with
      store := { page := [], state := .saving, source := s.store.source
                 job := some { copy := s.image.pageBytes, erasing := true, offset := 0, failed := 0 } } })) ∧
  (∀ (j : SaveJob) (s : State), s.Quiescent → s.store.job = some j → j.erasing = true →
    exec .saveEraseDone s =
      .next { s with store := { s.store with page := [], job := some { j with erasing := false } } }) ∧
  (∀ (j : SaveJob) (b : Byte) (s : State), s.Quiescent → s.store.job = some j → j.erasing = false →
    (j.copy[j.offset]? = some b → j.offset + 1 < j.copy.length → exec (.saveByteProgrammed b) s = .next { s with
      store := { s.store with page := j.copy.take j.offset ++ [b], job := some { j with offset := j.offset + 1, failed := 0 } } }) ∧
    (j.copy[j.offset]? = some b → j.copy.length ≤ j.offset + 1 → exec (.saveByteProgrammed b) s = .next (notify .storeDone { s with
      store := { s.store with page := j.copy.take j.offset ++ [b], state := .valid, job := none } })) ∧
    (j.copy[j.offset]? ≠ some b → j.failed < 3 → exec (.saveByteProgrammed b) s = .next { s with
      store := { s.store with page := j.copy.take j.offset ++ [b], job := some { j with failed := j.failed + 1 } } }) ∧
    (j.copy[j.offset]? ≠ some b → 3 ≤ j.failed → exec (.saveByteProgrammed b) s = .next (notify (.storeFault j.offset) { s with
      store := { s.store with page := j.copy.take j.offset ++ [b], state := .invalid, job := none } })))

/-! ### The round engine (1) -/

/-- START, STOP and STEP in every engine and quiet state (R11 to R13). That a STOP of a STEPPING engine that is not OPEN, which
R12 says does not arise, is answered OK and changes nothing is the model's choice (log 26). -/
def Obligations.EngineRequestsDecided : Prop :=
  ∀ (tag : Byte) (s : State),
    (s.Takes (.start tag) →
      (s.engine.state = .stopped → s.image.node.node = 0 →
        exec (.start tag) s = .next (s.answered (.start tag) .unconfigured [])) ∧
      (s.engine.state = .stopped → s.image.node.node ≠ 0 →
        exec (.start tag) s = .next { s.answered (.start tag) .ok [] with
          engine := { s.engine with
            state := (if s.image.round.mode = .free then .running else .paused), resumePending := true } }) ∧
      (s.engine.state = .stopping → exec (.start tag) s = .next (s.answered (.start tag) .busy [])) ∧
      (s.engine.state = .running ∨ s.engine.state = .paused ∨ s.engine.state = .stepping →
        exec (.start tag) s = .next (s.answered (.start tag) .badState []))) ∧
    (s.Takes (.stop tag) →
      ((s.engine.state = .running ∨ s.engine.state = .stepping) → s.quiet.state = .opened →
        exec (.stop tag) s =
          .next { s.answered (.stop tag) .ok [] with engine := { s.engine with state := .stopping } }) ∧
      ((s.engine.state = .running ∧ s.quiet.state ≠ .opened) ∨ s.engine.state = .paused →
        exec (.stop tag) s = .next (notify (.stopped s.engine.round)
          { s.answered (.stop tag) .ok [] with engine := { s.engine with state := .stopped } })) ∧
      (s.engine.state = .stopping ∨ s.engine.state = .stopped ∨ (s.engine.state = .stepping ∧ s.quiet.state ≠ .opened) →
        exec (.stop tag) s = .next (s.answered (.stop tag) .ok []))) ∧
    (s.Takes (.stepRound tag) →
      (s.engine.state = .paused → s.quiet.state = .opened →
        exec (.stepRound tag) s =
          .next { s.answered (.stepRound tag) .ok [] with engine := { s.engine with state := .stepping } }) ∧
      (s.engine.state = .paused → s.quiet.state ≠ .opened →
        exec (.stepRound tag) s = .next (s.answered (.stepRound tag) .badState [])) ∧
      (s.engine.state = .stepping → exec (.stepRound tag) s = .next (s.answered (.stepRound tag) .busy [])) ∧
      (s.engine.state = .stopped ∨ s.engine.state = .running ∨ s.engine.state = .stopping →
        exec (.stepRound tag) s = .next (s.answered (.stepRound tag) .badState [])))

/-- ROUND_START, when a round is due: the pending live values come into force, the counts are taken, the class changes are made, the
plan is built from the order table with the offsets of R17, the round number rises by 1 (past its top nothing is stated), RESUME is
spent, and the beacon goes on the air with the plan, the first four answers that the timers left, and the head broadcast, whose
repeats fall by 1. That the two plans before are kept, with the positions of the entries freed stale, is log 18, the order of the
counts, and so of their notices, log 11, and the bits of the beacon's flags byte that no rule names log 36. -/
def Obligations.RoundStartBuildsPlan : Prop :=
  ∀ s : State, s.StartsRound →
    let freed := fun i : Index => ((s.entry i).phaseRunsOut && ((s.entry i).state == .moving || (s.entry i).state == .arriving))
      || (s.entry i).confirmRunsOut
    let left := s.answers.filter fun a => match a.result with
      | .place .. => !(indices.any fun i => freed i && (s.entry i).car == a.car)
      | .denial _ => true
    ∃ t, exec .roundStart s = .next t ∧
    t.engine.state = s.engine.state ∧ t.engine.inProgress = true ∧ t.engine.resumePending = false ∧
    (s.engine.round ≠ 0xFFFFFFFF#32 → t.engine.round = s.engine.round + 1) ∧
    t.image = s.image ∧ t.live = s.image.liveGroups ∧ t.unapplied = Unapplied.none ∧
    t.quiet = s.quiet ∧ t.queues = s.queues ∧ t.ports = s.ports ∧ t.counters = s.counters ∧ t.store = s.store ∧
    t.nextCommand = s.nextCommand ∧ t.nextBroadcast = s.nextBroadcast ∧
    (t.engine.plan.round = t.engine.round ∧ t.engine.plan.positions.map Position.index = t.order ∧
      (∀ k p, t.engine.plan.positions[k]? = some p →
        p.car = (t.entry p.index).car ∧ p.cls = (t.entry p.index).rate ∧
        p.d = 6 + (codeBytes s.image.round.pd + 8) * p.cls.auPerByte ∧
        p.u = 6 + (codeBytes (t.entry p.index).granted + 10) * p.cls.auPerByte ∧
        p.start = 240 + s.image.round.g1 + ((t.engine.plan.positions.take k).map fun q => q.d + q.u + 10).sum ∧
        p.stale = false ∧ p.started = false ∧ p.closed = false) ∧
      t.engine.plan.joinStart = 240 + s.image.round.g1 + (t.engine.plan.positions.map fun q => q.d + q.u + 10).sum ∧
      (∀ j : Fin 4, j ∈ t.engine.plan.joins ↔ j.val < s.image.round.joinSlots)) ∧
    t.engine.plan.grace = (s.engine.resumePending || decide (0 < s.grace)) ∧
    t.grace = (if s.engine.resumePending then s.image.roster.graceRounds else s.grace - 1) ∧
    t.broadcasts = (match s.broadcasts with
      | [] => []
      | b :: bs => { b with repeats := b.repeats - 1 } :: bs) ∧
    (∀ u, u = roundCounts (liveIntoForce s) →
      t.roster = (classChanges u).roster ∧ t.control = (classChanges u).control ∧ t.order = u.order) ∧
    t.engine.prev.positions = (s.engine.plan.positions.map fun p => { p with stale := p.stale || freed p.index }) ∧
    t.engine.older.positions = (s.engine.prev.positions.map fun p => { p with stale := p.stale || freed p.index }) ∧
    t.answers = left.drop 4 ∧ t.engine.radio = some
      { bytes := beaconBytes s.image.node.node s.engine.resumePending (s.engine.state == .stepping) t.engine.round
          t.engine.plan.positions (left.take 4) s.broadcasts.head?
        cls := .b, begins := 0, ends := 234 }

/-- A round start at which no phase timer and no confirm timer runs out counts every timer down by 1, every age up, removes the
bars and the commands that have run out, the latter with EXPIRED by roster index, and then makes the class changes; nothing else of
an entry changes (R8, R40, R47, R96, R97, R107). -/
def Obligations.RoundStartCounts : Prop :=
  ∀ s : State, s.StartsRound →
    (∀ i : Index, (s.entry i).phaseRunsOut = false ∧ (s.entry i).confirmRunsOut = false) →
    ∃ t, exec .roundStart s = .next t ∧ t.order = s.order ∧ t.answers = s.answers.drop 4 ∧
      t.bars = (s.bars.filter fun b => decide (1 < b.rounds)).map (fun b => { b with rounds := b.rounds - 1 }) ∧
      (∃ u, u.order = s.order ∧ u.image = s.image ∧
        (∀ i : Index, u.entry i = { s.entry i with
          phaseTimer := (s.entry i).phaseTimer.map (· - 1)
          confirmTimer := (s.entry i).confirmTimer - 1
          pace := (s.entry i).pace - 1
          commands := ((s.entry i).commands.map fun k => { k with age := min (k.age + 1) 65535 }).filter fun k =>
            decide (k.expiry = 0 ∨ k.age < k.expiry) }) ∧
        u.control = (notifyAll (indices.flatMap fun i => ((s.entry i).commands.filter fun k =>
          decide (k.expiry ≠ 0 ∧ k.expiry ≤ min (k.age + 1) 65535)).map fun k =>
            .expired k.number (s.entry i).car k.sent) s).control ∧
        t.roster = (classChanges u).roster ∧ t.control = (classChanges u).control) ∧
      ∀ i : Index,
        t.entry i =
          { s.entry i with
            cls := (t.entry i).cls
            rateHeld := (t.entry i).rateHeld
            phaseTimer := (s.entry i).phaseTimer.map (· - 1)
            confirmTimer := (s.entry i).confirmTimer - 1
            pace := (s.entry i).pace - 1
            commands := ((s.entry i).commands.map fun k => { k with age := min (k.age + 1) 65535 }).filter fun k =>
              decide (k.expiry = 0 ∨ k.age < k.expiry) } ∧
        (i ∉ s.order → (t.entry i).cls = (s.entry i).cls ∧ (t.entry i).rateHeld = (s.entry i).rateHeld)

/-- The class changes of a round start (R8, R9): every promotion applied; each demotion, in the order of the order table,
applied exactly when the order table would still fit with it, and held otherwise; RATE_CHANGED and RATE_HELD in that order,
the latter only when the flag was clear. -/
def Obligations.ClassChangesObeyFitRule : Prop :=
  ∀ s : State, s.order.Nodup →
    let t := classChanges s
    let slot := fun (i : Index) (k : RateClass) => slotLength s.image.round.pd (s.entry i).granted k
    t = { s with roster := t.roster, control := t.control } ∧
    (∀ i : Index, t.entry i = { s.entry i with cls := (t.entry i).cls, rateHeld := (t.entry i).rateHeld }) ∧
    (∀ i : Index, i ∉ s.order → t.entry i = s.entry i) ∧
    (∀ i ∈ s.order, (s.entry i).wantedRate.slowerThan (s.entry i).rate = false →
      (t.entry i).rate = (s.entry i).wantedRate ∧ (t.entry i).rateHeld = false) ∧
    (∀ pre i post, s.order = pre ++ i :: post → (s.entry i).wantedRate.slowerThan (s.entry i).rate = true →
      if s.image.round.fixedPart + (pre.map fun j => slot j (t.entry j).rate).sum + slot i (s.entry i).wantedRate
          + (post.map fun j => slot j (s.entry j).promotedRate).sum ≤ s.image.round.period then
        (t.entry i).rate = (s.entry i).wantedRate ∧ (t.entry i).rateHeld = false
      else (t.entry i).rate = (s.entry i).rate ∧ (t.entry i).rateHeld = true) ∧
    t.control = (notifyAll
      ((s.order.filterMap fun i =>
          let e := s.entry i
          if e.rate.slowerThan e.wantedRate then some (.rateChanged e.car e.rate e.wantedRate) else none)
        ++ s.order.filterMap fun i =>
          let e := s.entry i
          if e.wantedRate.slowerThan e.rate = false then none
          else if (t.entry i).rateHeld = false then some (.rateChanged e.car e.rate e.wantedRate)
          else if e.rateHeld then none
          else some (.rateHeld e.car e.rate e.wantedRate)) s).control

/-- The rows of a round start taken by themselves: a timer, a bar or a command that runs out at the round start that is due
has its effect, one that does not, none (R40, R47, R97, R107, R114, R115, R119). BROADCAST_DONE, whenever the part is out of reset, a
round being in progress or not, removes a head broadcast with no repeats remaining, with its notice, and does nothing else (R103).
That these rows are also steps of their own is the model's reading (log 10), and that BROADCAST_DONE without a spent head does nothing
is log 8. -/
def Obligations.RoundStartRows : Prop :=
  (∀ s : State, s.inReset = false →
    (∀ (b : Broadcast) (bs : List Broadcast), s.broadcasts = b :: bs → b.repeats = 0 →
      exec .broadcastDone s = .next (notify (.broadcastDone b.id) { s with broadcasts := bs })) ∧
    ((∀ (b : Broadcast) (bs : List Broadcast), s.broadcasts = b :: bs → b.repeats ≠ 0) → exec .broadcastDone s = .next s)) ∧
  ∀ s : State, s.StartsRound →
    (∀ i : Index, let e := s.entry i
      (∀ n, e.phaseTimer = some n → n ≤ 1 →
        (e.state = .offering → exec (.offerTimerExpiry i) s = .next (notify
          (.handoverRefused e.car i (nodeByte e.peer) .noAnswer) (s.setEntry i
            { e with state := .active, peer := none, phaseTimer := none, target := none, leadCount := 0 }))) ∧
        (e.state = .moving → exec (.moveTimerExpiry i) s = .next
          (freeEntry i (some (.handoverLost e.car i (nodeByte e.peer) e.lastHeard)) .moved s)) ∧
        (e.state = .arriving → exec (.arrivalTimerExpiry i) s = .next
          (freeEntry i (some (.arrivalFailed e.car i (nodeByte e.peer))) .moved s))) ∧
      (e.state = .pending → e.confirmTimer ≤ 1 → exec (.confirmTimerExpiry i) s = .next
        (freeEntry i (some (.departed e.car i .confirmTimeout e.lastHeard)) .departed s)) ∧
      (e.state ≠ .offering ∨ (∀ n, e.phaseTimer = some n → 1 < n) → exec (.offerTimerExpiry i) s = .next s) ∧
      (e.state ≠ .moving ∨ (∀ n, e.phaseTimer = some n → 1 < n) → exec (.moveTimerExpiry i) s = .next s) ∧
      (e.state ≠ .arriving ∨ (∀ n, e.phaseTimer = some n → 1 < n) → exec (.arrivalTimerExpiry i) s = .next s) ∧
      (e.state ≠ .pending ∨ 1 < e.confirmTimer → exec (.confirmTimerExpiry i) s = .next s)) ∧
    (∀ car, ((∃ b ∈ s.bars, b.car = car ∧ b.rounds ≤ 1) →
        exec (.barExpiry car) s = .next { s with bars := s.bars.filter fun b => decide (b.car ≠ car) }) ∧
      ((∀ b ∈ s.bars, b.car = car → 1 < b.rounds) → exec (.barExpiry car) s = .next s)) ∧
    (∀ n, (∀ i : Index, ∀ k ∈ (s.entry i).commands, k.number ≠ n) → exec (.commandExpiry n) s = .next s) ∧
    (∀ (i : Index) (k : Command), k ∈ (s.entry i).commands →
      (∀ j : Index, ∀ c ∈ (s.entry j).commands, c.number = k.number → j = i ∧ c = k) →
      (k.expiry ≠ 0 → k.expiry ≤ k.age + 1 →
        ((s.entry i).phaseRunsOut = false ∨ ((s.entry i).state ≠ .moving ∧ (s.entry i).state ≠ .arriving)) →
        exec (.commandExpiry k.number) s = .next (notify (.expired k.number (s.entry i).car k.sent) (s.setEntry i
          { s.entry i with commands := (s.entry i).commands.filter fun c => decide (c.number ≠ k.number) }))) ∧
      (k.expiry = 0 ∨ k.age + 1 < k.expiry → exec (.commandExpiry k.number) s = .next s)) ∧
    exec .broadcastDone s = .next s ∧
    ∀ (b : Broadcast) (bs : List Broadcast), exec .broadcastDone { s with broadcasts := { b with repeats := 0 } :: bs } =
      .next (notify (.broadcastDone b.id) { s with broadcasts := bs })

/-- ROUND_COMPLETE: a RUNNING engine's next round is due at once if OPEN, a STOPPING one stops with STOPPED, a STEPPING one pauses
with ROUND_DONE (R14); without a round in progress the row does nothing, which is log 8. -/
def Obligations.RoundCompletes : Prop :=
  ∀ s : State, s.Quiescent →
    (s.engine.inProgress = true →
      (s.engine.state = .running → ∃ t, exec .roundComplete s = .next t ∧
        t = { s with engine := { s.engine with inProgress := false, radio := none } } ∧
        (t.roundDue = true ↔ s.quiet.state = .opened)) ∧
      (s.engine.state = .stopping → exec .roundComplete s = .next (notify (.stopped s.engine.round)
        { s with engine := { s.engine with state := .stopped, inProgress := false, radio := none } })) ∧
      (s.engine.state = .stepping → exec .roundComplete s = .next (notify (.roundDone s.engine.round false)
        { s with engine := { s.engine with state := .paused, inProgress := false, radio := none } }))) ∧
    (s.engine.inProgress = false → exec .roundComplete s = .next s)

/-- SLOT_START: a stale position stays silent; any other carries a MOVE directive for a MOVING entry, else the pattern for a
surveyed one, else the head command, again with REPEAT or anew with the next sequence once the pace count is 0, else IDLE
(R19, R24, R91 to R93, R111, R156). -/
def Obligations.SlotCarriesSegment : Prop :=
  ∀ (n : Fin 24) (p : Position) (s : State), s.SlotDue n p →
    let e := s.entry p.index
    let plan := fun (c : SentContent) => { s.engine.plan with
      positions := s.engine.plan.positions.modify n.val fun q => { q with started := true, sent := c } }
    let sends := fun (e' : Entry) (c : SentContent) (b : RadioBurst) =>
      { s.setEntry p.index e' with engine := { s.engine with plan := plan c, radio := some b } }
    let pattern := s.live.pattern.make (min (codeBytes s.image.round.pd) (codeBytes e.granted))
    (p.stale = true → exec (.slotStart n) s = .next { s with engine := { s.engine with plan := plan p.sent } }) ∧
    (p.stale = false →
      (e.state = .moving → ∀ t, e.target = some t → exec (.slotStart n) s = .next (sends e .nothing (segmentOnAir p 62
        [nodeByte e.peer, t.channel, t.index, byteOf t.cls.code] 0 false e.lastSeq))) ∧
      (e.state ≠ .moving → e.survey = true → exec (.slotStart n) s =
        .next (sends e (.pattern pattern) (segmentOnAir p 63 pattern 0 false e.lastSeq))) ∧
      (e.state ≠ .moving → e.survey = false →
        (∀ k ks, e.commands = k :: ks →
          (∀ q, k.seqUsed = some q → exec (.slotStart n) s =
            .next (sends e (.command k.number) (segmentOnAir p k.kind.toNat k.payload q true e.lastSeq))) ∧
          (k.seqUsed = none → e.pace = 0 → exec (.slotStart n) s = .next (sends
            { e with nextSeq := e.nextSeq + 1, commands := { k with seqUsed := some e.nextSeq, sent := true } :: ks }
            (.command k.number) (segmentOnAir p k.kind.toNat k.payload e.nextSeq false e.lastSeq))) ∧
          (k.seqUsed = none → e.pace ≠ 0 → exec (.slotStart n) s =
            .next (sends e .nothing (segmentOnAir p 61 [] 0 false e.lastSeq)))) ∧
        (e.commands = [] → exec (.slotStart n) s =
          .next (sends e .nothing (segmentOnAir p 61 [] 0 false e.lastSeq)))))

/-! ### Uplink windows (3, 4) -/

/-- What the close of an uplink window counts, at the node and in the entry's three counters, in the round in force and in the two
before it (log 18); an entry freed at the miss limit has its counters 0; for a stale position nothing else happens; a stray burst
changes nothing at all (R19, R24, R48, R67, R149, R150); nor does the close of a window already closed, which is log 8. -/
def Obligations.WindowsCounted : Prop :=
  (∀ s : State, s.Quiescent → exec .strayBurst s = .next s) ∧
  (∀ (ago : Fin 3) (n : Fin 24) (r : UplinkResult) (s : State), s.Quiescent →
    (∀ p, (s.engine.planOf ago).positions[n.val]? = some p → p.closed = true) → exec (.uplinkWindowClose ago n r) s = .next s) ∧
  (∀ (ago : Fin 3) (n : Fin 24) (p : Position) (s : State), s.WindowDue ago n p →
    let shut := s.withPlanOf ago { s.engine.planOf ago with
      positions := (s.engine.planOf ago).positions.modify n.val fun q => { q with closed := true } }
    (p.stale = true →
      exec (.uplinkWindowClose ago n .nothing) s = .next shut ∧
      exec (.uplinkWindowClose ago n .checkFailed) s = .next { shut with
        counters := { s.counters with checkFailures := min (s.counters.checkFailures + 1) 65535 } } ∧
      ∀ m c bytes, (Burst.read bytes).isSome = true → exec (.uplinkWindowClose ago n (.passed m c bytes)) s =
        .next { shut with counters := { s.counters with wrongCar := min (s.counters.wrongCar + 1) 65535 } }) ∧
    (p.stale = false →
      let e := s.entry p.index
      let freed := (s.engine.planOf ago).grace = false ∧ e.state.charged = true ∧ s.live.roster.missLimit ≤ e.missed + 1
      let counted := fun (t : State) (failed : Nat) =>
        (freed → (t.entry p.index).good = 0 ∧ (t.entry p.index).failed = 0 ∧ (t.entry p.index).corrected = 0) ∧
        (¬ freed → (t.entry p.index).good = e.good ∧ (t.entry p.index).failed = failed ∧
          (t.entry p.index).corrected = e.corrected)
      (∃ t, exec (.uplinkWindowClose ago n .nothing) s = .next t ∧ t.counters = s.counters ∧ counted t e.failed) ∧
      (∃ t, exec (.uplinkWindowClose ago n .checkFailed) s = .next t ∧
        t.counters = { s.counters with checkFailures := min (s.counters.checkFailures + 1) 65535 } ∧
        counted t (min (e.failed + 1) 65535)) ∧
      ∀ m c bytes b, Burst.read bytes = some b →
        (b.car ≠ p.car → ∃ t, exec (.uplinkWindowClose ago n (.passed m c bytes)) s = .next t ∧
          t.counters = { s.counters with wrongCar := min (s.counters.wrongCar + 1) 65535 } ∧ counted t e.failed) ∧
        (b.car = p.car → ∃ t, exec (.uplinkWindowClose ago n (.passed m c bytes)) s = .next t ∧
          t.counters = { s.counters with
            burstsGood := min (s.counters.burstsGood + 1) 65535
            corrected := if 0 < c then min (s.counters.corrected + 1) 65535 else s.counters.corrected
            lengthErrors := if codeBytes (s.entry p.index).granted < b.length ∨ b.length ≠ b.received then
              min (s.counters.lengthErrors + 1) 65535 else s.counters.lengthErrors
            repeats := if b.length ≤ codeBytes (s.entry p.index).granted ∧ b.length = b.received ∧ b.length ≠ 0 ∧
                b.kind ≠ 62 ∧ (s.entry p.index).lastSeq = some b.seq then
              min (s.counters.repeats + 1) 65535 else s.counters.repeats
            notStarted := t.counters.notStarted } ∧
          (t.entry p.index).good = min (e.good + 1) 65535 ∧ (t.entry p.index).failed = e.failed ∧
          (t.entry p.index).corrected = if 0 < c then min (e.corrected + 1) 65535 else e.corrected)))

/-- A window in which the position's car is not heard is missed: outside a grace round a JOINING, ACTIVE or OFFERING entry is
charged, its score moves toward 0, an ACTIVE one's class is proposed afresh; at the miss limit the entry is freed with
DEPARTED, and CANCEL goes to the peer of an OFFERING one (R44, R45, R51 to R56). That a window of one of the two rounds before is
charged by the grace state of its own round is log 18. -/
def Obligations.MissedWindowCharged : Prop :=
  ∀ (ago : Fin 3) (n : Fin 24) (p : Position) (r : UplinkResult) (s : State), s.WindowDue ago n p → p.stale = false →
    (r = .nothing ∨ r = .checkFailed ∨ ∃ m c bytes b, r = .passed m c bytes ∧ Burst.read bytes = some b ∧ b.car ≠ p.car) →
    let e := s.entry p.index
    let scored := { e with score := e.score - (e.score + 7) / 8 }
    ∃ t, exec (.uplinkWindowClose ago n r) s = .next t ∧ (∀ j, j ≠ p.index → t.entry j = s.entry j) ∧
      t.image = s.image ∧ t.live = s.live ∧ t.quiet = s.quiet ∧ t.store = s.store ∧ t.bars = s.bars ∧ t.broadcasts = s.broadcasts ∧
      ((s.engine.planOf ago).grace = false → e.state.charged = true → e.missed + 1 < s.live.roster.missLimit →
        t.order = s.order ∧ t.answers = s.answers ∧ t.ports = s.ports ∧
        t.entry p.index = { (if e.state = .active then scored.propose s.live.link else scored) with
          missed := e.missed + 1, failed := (if r = .checkFailed then min (e.failed + 1) 65535 else e.failed)
          commands := (t.entry p.index).commands, pace := (t.entry p.index).pace }) ∧
      ((s.engine.planOf ago).grace = true ∨ e.state.charged = false →
        t.order = s.order ∧ t.answers = s.answers ∧ t.ports = s.ports ∧
        (t.entry p.index).state = e.state ∧ (t.entry p.index).missed = e.missed ∧
        (t.entry p.index).lastHeard = e.lastHeard ∧ (t.entry p.index).lastSeq = e.lastSeq) ∧
      ((s.engine.planOf ago).grace = false → e.state.charged = true → s.live.roster.missLimit ≤ e.missed + 1 →
        t.entry p.index = Entry.vacant ∧ t.order = s.order.erase p.index ∧
        t.ports = (if e.state = .offering then (sendToPeer e.peer (.cancel e.car) s).ports else s.ports) ∧
        (p.sent = .nothing → t.control = (notifyAll (.departed e.car p.index
            (if e.state = .joining ∧ e.heard = false then .neverHeard else .silent) e.lastHeard ::
          e.commands.map fun k => .undelivered k.number e.car .departed k.sent) s).control))

/-- The wanted class and the up count of an ACTIVE entry from its updated score (R55, R56). That an up count above a lowered setting
is set to the setting at class A, in the last clause, is log 21. -/
def Obligations.ClassProposedFromScore : Prop :=
  ∀ (l : LinkGroup) (e : Entry), l.demote < l.promote →
    (e.score < l.demote → e.propose l = { e with wanted := some e.rate.slower, upCount := 0 }) ∧
    (l.demote ≤ e.score → e.score < l.promote → e.propose l = { e with wanted := some e.rate, upCount := 0 }) ∧
    (l.promote ≤ e.score → e.upCount + 1 < l.promoteRounds →
      e.propose l = { e with wanted := some e.rate, upCount := e.upCount + 1 }) ∧
    (l.promote ≤ e.score → l.promoteRounds ≤ e.upCount + 1 → e.rate ≠ .a →
      e.propose l = { e with wanted := some e.rate.faster, upCount := 0 }) ∧
    (l.promote ≤ e.score → l.promoteRounds ≤ e.upCount + 1 → e.rate = .a →
      e.propose l = { e with wanted := some .a, upCount := l.promoteRounds })

/-- A window in which the position's car is heard: the misses end, the score of a JOINING, ACTIVE or OFFERING entry moves by an
eighth of its distance to the sample, a JOINING entry becomes ACTIVE with JOINED, an ARRIVING one ACTIVE with DONE to its former
peer and ARRIVED, an accepted burst's sequence is kept (R42, R51 to R54, R71, R118). That the last heard round set by a window of
one of the two rounds before is its own is log 18. -/
def Obligations.HeardWindowRenews : Prop :=
  ∀ (ago : Fin 3) (n : Fin 24) (p : Position) (m c : Nat) (bytes : List Byte) (b : Burst) (s : State),
    s.WindowDue ago n p → p.Hears bytes b →
    let e := s.entry p.index
    let sample := min (4 * min m 63 - 8 * min c 15) 255
    let score := if e.score ≤ sample then e.score + (sample - e.score + 7) / 8 else e.score - (e.score - sample + 7) / 8
    let accepted := decide (b.length ≤ codeBytes e.granted ∧ b.length = b.received ∧ b.length ≠ 0 ∧ b.kind ≠ 62 ∧
      e.lastSeq ≠ some b.seq)
    ∃ t, exec (.uplinkWindowClose ago n (.passed m c bytes)) s = .next t ∧ (∀ j, j ≠ p.index → t.entry j = s.entry j) ∧
      t.order = s.order ∧ t.answers = s.answers ∧ t.image = s.image ∧ t.quiet = s.quiet ∧
      (t.entry p.index).car = e.car ∧ (t.entry p.index).missed = 0 ∧
      (t.entry p.index).lastHeard = (s.engine.planOf ago).round ∧ (t.entry p.index).heard = true ∧
      (t.entry p.index).lastSeq = (if accepted then some b.seq else e.lastSeq) ∧
      (t.entry p.index).score = (if e.state.charged then score else e.score) ∧
      (e.state = .joining → (t.entry p.index).state = .active ∧
        (p.sent = .nothing → accepted = false →
          t.control = s.control.post (.joined e.car p.index e.rate e.granted))) ∧
      (e.state = .arriving → (t.entry p.index).state = .active ∧ (t.entry p.index).peer = none ∧
        (t.entry p.index).phaseTimer = none ∧
        (p.sent = .nothing → accepted = false →
          t.ports = (sendToPeer e.peer (.done e.car) s).ports ∧
          t.control = s.control.post (.arrived e.car p.index (nodeByte e.peer) e.rate e.granted))) ∧
      (e.state = .offering ∨ e.state = .moving → (t.entry p.index).state = e.state) ∧
      (e.state = .active → (t.entry p.index).state = .active ∨ (t.entry p.index).state = .offering)

/-- The neighbour report of a heard window of an ACTIVE entry: for the candidate it moves N, for another configured neighbour it makes
that the candidate afresh, and without one the candidate is cleared; the lead count rises while N leads by the hysteresis. The lead
that reaches the lead rounds setting starts a handover: with the handovers enabled, the port facing the candidate UP with room, and
the engine running, the entry becomes OFFERING, the OFFER is queued and HANDOVER_OFFERED sent; otherwise the node counts a handover
not started; disabled, the count only stands at the setting (R59 to R62, R108). That a window of one of
the two rounds before is read so too is log 18, and that bits 1 to 7 of the OFFER's survey flag are 0 is log 36. -/
def Obligations.LeadStartsHandover : Prop :=
  (∀ (i : Index) (b : Burst) (m c : Nat) (s : State), (s.entry i).state = .active →
    let e := s.entry i
    let scored := (e.updateScore (sampleOf (some (m, c)))).propose s.live.link
    let t := assessWindow i (some (b, m, c)) s
    (b.nbrValid = false ∨ s.portFacing b.nbrNode = none →
      t = s.setEntry i { scored with candidate := none, nbrScore := 0, leadCount := 0 }) ∧
    ∀ port, b.nbrValid = true → s.portFacing b.nbrNode = some port →
      let same := decide (e.candidate = some b.nbrNode)
      let sample := 4 * min b.nbrMargin 63
      let n := if same then moveScore e.nbrScore sample else sample
      let tracked := { scored with
        candidate := some b.nbrNode, nbrScore := n
        leadCount := if scored.score + s.live.link.hysteresis ≤ n then (if same then e.leadCount else 0) + 1 else 0 }
      (tracked.leadCount < s.live.link.leadRounds → t = s.setEntry i tracked) ∧
      (s.live.link.leadRounds ≤ tracked.leadCount →
        (s.live.handover.enable = false → t = s.setEntry i { tracked with leadCount := s.live.link.leadRounds }) ∧
        (s.live.handover.enable = true →
          (s.canOffer port = true → t = notify
            (.handoverOffered e.car i b.nbrNode e.rate e.granted)
            ((sendHandover port b.nbrNode (.offer
              { car := e.car, cls := byteOf e.rate.code, allowance := e.granted.zeroExtend 8, survey := flagByte e.survey
                score := byteOf n, lastSeq := seqByte e.lastSeq, nextSeq := e.nextSeq.zeroExtend 8 }) s).setEntry i
              { tracked with
                state := .offering, leadCount := 0, peer := some b.nbrNode
                phaseTimer := some s.live.handover.offerTimeout })) ∧
          (s.canOffer port = false → t =
            { s.setEntry i { tracked with leadCount := 0 } with
              counters := { s.counters with notStarted := min (s.counters.notStarted + 1) 65535 } })))) ∧
  (∀ (i : Index) (s : State), (s.entry i).state = .active →
    assessWindow i none s = s.setEntry i (((s.entry i).updateScore 0).propose s.live.link)) ∧
  ∀ (ago : Fin 3) (n : Fin 24) (p : Position) (m c : Nat) (bytes : List Byte) (b : Burst) (s : State),
    s.WindowDue ago n p → p.Hears bytes b → (s.entry p.index).state = .active → s.ports.up.Held → s.ports.down.Held →
    let u := assessWindow p.index (some (b, min m 63, min c 15)) s
    ∃ t, exec (.uplinkWindowClose ago n (.passed m c bytes)) s = .next t ∧
      (t.entry p.index).candidate = (u.entry p.index).candidate ∧
      (t.entry p.index).nbrScore = (u.entry p.index).nbrScore ∧
      (t.entry p.index).leadCount = (u.entry p.index).leadCount ∧
      (t.entry p.index).state = (u.entry p.index).state ∧
      (t.entry p.index).peer = (u.entry p.index).peer ∧
      (t.entry p.index).phaseTimer = (u.entry p.index).phaseTimer ∧
      (t.entry p.index).wanted = (u.entry p.index).wanted ∧ (t.entry p.index).upCount = (u.entry p.index).upCount ∧
      t.counters.notStarted = u.counters.notStarted

/-- An accepted burst goes where the first filter entry that matches it sends it, else to queue 0: to a queue with room at its
tail, cut to the storage size; to a full one only as a lost record; to nowhere; or to the port facing the portal, at a SELF node
to the portal queue. A repeated, empty or ill-sized burst makes no record, nor does the echo of a surveyed car whose slot carried no
pattern (R69 to R75, R79 to R82, R134). That the record and the PASS body of a window of one of the two rounds before carry its own
round is log 18. The windows of slots that carried a pattern of a surveyed car are SurveyWindowReported's. -/
def Obligations.AcceptedBurstRouted : Prop :=
  ∀ (ago : Fin 3) (n : Fin 24) (p : Position) (m c : Nat) (bytes : List Byte) (b : Burst) (s : State),
    s.WindowDue ago n p → p.Hears bytes b →
    ((∀ v, p.sent ≠ .pattern v) ∨ (s.entry p.index).survey = false) →
    let e := s.entry p.index
    let rec0 := s.recordOf (s.engine.planOf ago).round p b m c
    let dest := s.routeOf b
    ∃ t, exec (.uplinkWindowClose ago n (.passed m c bytes)) s = .next t ∧
      (e.Accepts b → b.kind = 63 → e.survey = true → t.queues = s.queues) ∧
      (e.Accepts b → (b.kind ≠ 63 ∨ e.survey = false) →
        (∀ q, (dest = .queue q ∨ (dest = .passAlong ∧ s.portalPort = none ∧ q = s.image.queues.portal)) →
          (∀ r, r ≠ q → t.rx r = s.rx r) ∧
          ((s.rx q).records.length < (s.queueSetting q).depth → t.rx q = { s.rx q with
            records := (s.rx q).records ++ [{ rec0 with
              payload := b.payload.take (codeBytes (s.queueSetting q).storage)
              truncated := decide (codeBytes (s.queueSetting q).storage < b.length) }] }) ∧
          ((s.queueSetting q).depth ≤ (s.rx q).records.length → t.rx q = { s.rx q with
            lost := min ((s.rx q).lost + 1) 255
            episode := (s.rx q).episode || decide ((s.queueSetting q).depth ≠ 0) }) ∧
          (p.sent = .nothing → e.state = .offering ∨ e.state = .moving → t.control = (deposit q rec0 s).control) ∧
          (p.sent = .nothing → e.state = .joining →
            t.control = (deposit q rec0 s).control.post (.joined e.car p.index e.rate e.granted))) ∧
        (dest = .discard → t.queues = s.queues) ∧
        (∀ port, dest = .passAlong → s.portalPort = some port → t.queues = s.queues ∧
          (e.state = .joining ∨ e.state = .offering ∨ e.state = .moving → t.ports = (s.updatePort port (Port.submitPass
            { src := s.image.node.node, dst := 0, hop := 0, body := .pass
                { origin := s.image.node.node, car := b.car, kind := byteOf b.kind
                  stamp := (s.engine.planOf ago).round.truncate 16, margin := byteOf (min m 63)
                  corrections := byteOf (min c 15), payload := b.payload } })).ports))) ∧
      (¬ e.Accepts b → t.queues = s.queues)

/-- The close of a window whose slot carried a pattern, for a surveyed car: its accepted echo is compared with the pattern, byte by
byte, and every other outcome counts as no echo; the report is deposited in the survey queue, with the margin and corrections of a
heard burst and 0 otherwise, after the record of an accepted burst that is no echo (R73, R158, R159; that order is log 13). That the
report and the record of a window of one of the two rounds before carry its own round is log 18. -/
def Obligations.SurveyWindowReported : Prop :=
  ∀ (ago : Fin 3) (n : Fin 24) (p : Position) (v : List Byte) (s : State),
    s.WindowDue ago n p → p.stale = false → p.sent = .pattern v → (s.entry p.index).survey = true →
    let e := s.entry p.index
    let round := (s.engine.planOf ago).round
    let report := fun (echo : List Byte) (margin corrections : Nat) (u : State) =>
      deposit s.image.queues.survey (s.surveyReportOf round p v echo margin corrections) u
    (∀ r : UplinkResult, (r = .nothing ∨ r = .checkFailed ∨
        ∃ m c bytes b, r = .passed m c bytes ∧ Burst.read bytes = some b ∧ b.car ≠ p.car) →
      ∃ t, exec (.uplinkWindowClose ago n r) s = .next t ∧ t.queues = (report [] 0 0 s).queues) ∧
    ∀ m c bytes b, p.Hears bytes b →
      ∃ t, exec (.uplinkWindowClose ago n (.passed m c bytes)) s = .next t ∧
        (¬ e.Accepts b → t.queues = (report [] (min m 63) (min c 15) s).queues) ∧
        (e.Accepts b → b.kind = 63 → t.queues = (report b.payload (min m 63) (min c 15) s).queues ∧
          (e.state = .offering → t.control = (report b.payload (min m 63) (min c 15) s).control)) ∧
        (e.Accepts b → b.kind ≠ 63 →
          (∀ q, s.routeOf b = .queue q ∨
              (s.routeOf b = .passAlong ∧ s.portalPort = none ∧ q = s.image.queues.portal) →
            t.queues = (report [] (min m 63) (min c 15) (deposit q (s.recordOf round p b m c) s)).queues) ∧
          (s.routeOf b = .discard ∨ (s.routeOf b = .passAlong ∧ s.portalPort ≠ none) →
            t.queues = (report [] (min m 63) (min c 15) s).queues))

/-- One arrival at a receive queue: with room, the record at its tail, cut to the storage size, and QUEUE_READY with the new count at
every arrival in EACH mode, else at the one that brings the count to the threshold count, depth times eighths over 8 rounded up and
at least 1; at a full queue the lost count rises, and QUEUE_LOST is sent by the first loss of an episode, whatever the notice
enable; a queue of depth 0 only counts (R79 to R82). -/
def Obligations.ArrivalsAnnounced : Prop :=
  ∀ (q : Fin 4) (r : Record) (s : State),
    let x := s.rx q
    let cfg := s.queueSetting q
    let n := x.records.length
    (n < cfg.depth →
      let u := s.setRx q { x with records := x.records ++ [{ r with
        payload := r.payload.take (codeBytes cfg.storage), truncated := decide (codeBytes cfg.storage < r.received) }] }
      let crossing := cfg.depth * cfg.threshold ≤ 8 * (n + 1) ∧ (8 * n < cfg.depth * cfg.threshold ∨ n = 0)
      (cfg.notice = true → cfg.threshold = 0 ∨ crossing → deposit q r s = notify (.queueReady q (n + 1)) u) ∧
      (cfg.notice = false ∨ (cfg.threshold ≠ 0 ∧ ¬ crossing) → deposit q r s = u)) ∧
    (cfg.depth ≤ n →
      let u := s.setRx q { x with lost := min (x.lost + 1) 255, episode := x.episode || decide (cfg.depth ≠ 0) }
      (cfg.depth ≠ 0 → x.episode = false → deposit q r s = notify (.queueLost q (min (x.lost + 1) 255)) u) ∧
      (cfg.depth = 0 ∨ x.episode = true → deposit q r s = u))

/-- The window of a slot that carried a command: the acknowledgement of its sequence in the heard burst removes it with DELIVERED when
asked for and sets the pace count; any other close, with nothing received, a failed check, a wrong car or a burst without that
acknowledgement, is a failed send, one attempt more, and at the retry limit its removal with UNDELIVERED (R94, R95, R96). When the same
close reaches the miss limit, that comes first, and the commands then left go with the entry (R72, R45, R100). Where the slot carried
no command, or one no longer in the pool, the list and the pace count stay (R94). That a window of one of the two rounds before has the
grace state of its own round is log 18. -/
def Obligations.CommandAcknowledged : Prop :=
  (∀ (ago : Fin 3) (n : Fin 24) (p : Position) (r : UplinkResult) (s : State), s.WindowDue ago n p → p.stale = false →
    let e := s.entry p.index
    (∀ c ∈ e.commands, p.sent ≠ .command c.number) →
    (∃ m c bytes b, r = .passed m c bytes ∧ p.Hears bytes b) ∨
      ¬ ((s.engine.planOf ago).grace = false ∧ e.state.charged = true ∧ s.live.roster.missLimit ≤ e.missed + 1) →
    ∃ t, exec (.uplinkWindowClose ago n r) s = .next t ∧
      (t.entry p.index).commands = e.commands ∧ (t.entry p.index).pace = e.pace) ∧
  ∀ (ago : Fin 3) (n : Fin 24) (p : Position) (k : Command) (s : State), s.WindowDue ago n p → p.stale = false → p.sent = .command k.number →
    let e := s.entry p.index
    k ∈ e.commands → (∀ c ∈ e.commands, c.number = k.number → c = k) →
    let others := e.commands.filter fun c => decide (c.number ≠ k.number)
    let leaves := (s.engine.planOf ago).grace = false ∧ e.state.charged = true ∧ s.live.roster.missLimit ≤ e.missed + 1
    (∀ m c bytes b, p.Hears bytes b → b.dlAckValid = true → k.seqUsed = some b.dlAck →
      ∃ t, exec (.uplinkWindowClose ago n (.passed m c bytes)) s = .next t ∧
        (t.entry p.index).commands = others ∧ (t.entry p.index).pace = s.live.downlink.pacing ∧
        (e.state = .active → b.length = 0 → b.received = 0 → b.nbrValid = false →
          t.control = (if k.notify then s.control.post (.delivered k.number e.car (k.attempts + 1)) else s.control))) ∧
    (∀ m c bytes b, p.Hears bytes b → (b.dlAckValid = false ∨ k.seqUsed ≠ some b.dlAck) →
      ∃ t, exec (.uplinkWindowClose ago n (.passed m c bytes)) s = .next t ∧
        (k.attempts + 1 < s.live.downlink.retryLimit →
          (t.entry p.index).commands = e.commands.map (fun c =>
            if c.number = k.number then { c with attempts := c.attempts + 1 } else c) ∧
          (t.entry p.index).pace = e.pace) ∧
        (s.live.downlink.retryLimit ≤ k.attempts + 1 →
          (t.entry p.index).commands = others ∧ (t.entry p.index).pace = s.live.downlink.pacing ∧
          (e.state = .active → b.length = 0 → b.received = 0 → b.nbrValid = false →
            t.control = s.control.post (.undelivered k.number e.car .noAck k.sent)))) ∧
    ∀ r, (r = .nothing ∨ r = .checkFailed ∨ ∃ m c bytes b, r = .passed m c bytes ∧ Burst.read bytes = some b ∧ b.car ≠ p.car) →
      ∃ t, exec (.uplinkWindowClose ago n r) s = .next t ∧
        (¬ leaves →
          (k.attempts + 1 < s.live.downlink.retryLimit →
            (t.entry p.index).commands = e.commands.map (fun c =>
              if c.number = k.number then { c with attempts := c.attempts + 1 } else c) ∧
            (t.entry p.index).pace = e.pace ∧ t.control = s.control) ∧
          (s.live.downlink.retryLimit ≤ k.attempts + 1 →
            (t.entry p.index).commands = others ∧ (t.entry p.index).pace = s.live.downlink.pacing ∧
            t.control = s.control.post (.undelivered k.number e.car .noAck k.sent))) ∧
        (leaves → t.entry p.index = Entry.vacant ∧
          (∀ given up : List Notice,
            given = (if s.live.downlink.retryLimit ≤ k.attempts + 1 then [.undelivered k.number e.car .noAck k.sent] else []) →
            up = (if s.live.downlink.retryLimit ≤ k.attempts + 1 then others else e.commands).map
              (fun c => .undelivered c.number e.car .departed c.sent) →
            t.control = (notifyAll (given ++ .departed e.car p.index
              (if e.state = .joining ∧ e.heard = false then .neverHeard else .silent) e.lastHeard :: up) s).control))

/-- The FIXED survey pattern (R157): the block of the first m bytes, m being 1 to 12 and 12 by default, is repeated and cut to the
length, and the settings of the kind not in use take no part. -/
def Obligations.FixedPatternRepeatsBlock : Prop :=
  (∀ i : Settings, i.Valid → 1 ≤ i.pattern.block ∧ i.pattern.block ≤ 12 ∧ i.pattern.block ≤ i.pattern.bytes.length) ∧
  (∀ (g : PatternGroup) (n : Nat), g.kind = .fixed → 1 ≤ g.block → g.block ≤ g.bytes.length →
    (g.make n).length = n ∧ (∀ i, i < n → (g.make n)[i]? = g.bytes[i % g.block]?) ∧
    (n < g.block → g.make n = g.bytes.take n) ∧ (g.block = 1 → g.make n = List.replicate n (g.bytes.getD 0 0)) ∧
    ∀ bands bandSize, ({ g with bands := bands, bandSize := bandSize }).make n = g.make n) ∧
  (∀ (g : PatternGroup) (n m : Nat), g.kind = .bands → ({ g with block := m }).make n = g.make n) ∧
  Settings.default.pattern.block = 12 ∧
  ({ Settings.default.pattern with kind := .fixed }).make 16 =
    [0x5A, 0xC3, 0x0F, 0xF0, 0x33, 0x99, 0x66, 0xE7, 0x18, 0x81, 0x24, 0xDB, 0x5A, 0xC3, 0x0F, 0xF0]

/-- In BANDS byte i is the value of the band it lies in, the last band taking all the rest (R156). -/
def Obligations.BandsPatternFillsLength : Prop :=
  ∀ (g : PatternGroup) (n : Nat), g.kind = .bands → 1 ≤ g.bands → 1 ≤ g.bandSize → g.bands ≤ g.bytes.length →
    (g.make n).length = n ∧ ∀ i, i < n → (g.make n)[i]? = g.bytes[min (i / g.bandSize) (g.bands - 1)]?

/-! ### The car roster (2) -/

/-- The close of a join window, in the round in force and in the two before it (log 18): without a join to decide it only counts,
and a join from a barred car, one already answered and one that finds the answer list full are not decided (R25, R32, R33). A join
that is decided: in AUTO mode a place at the lowest FREE index, with the class of its sample and the largest allowance up to its
request that fits, or a denial; in CONFIRM mode a PENDING entry and JOIN_ASKED; from a car with an entry a resync, an answer or
nothing, by its state, with CANCEL from OFFERING and MOVING (R7, R27, R33 to R37, R63, R99). That a JOIN burst with fewer than six
body bytes is a collision is log 14, that a window no longer open does nothing is log 8, and that the last heard round is set by a
resync and for an ARRIVING entry is log 27. -/
def Obligations.JoinWindowDecided : Prop :=
  (∀ (ago : Fin 3) (k : Fin 4) (s : State), s.Quiescent →
    let shut := s.withPlanOf ago { s.engine.planOf ago with joins := (s.engine.planOf ago).joins.erase k }
    (k ∉ (s.engine.planOf ago).joins → ∀ r, exec (.joinWindowClose ago k r) s = .next s) ∧
    (k ∈ (s.engine.planOf ago).joins →
      exec (.joinWindowClose ago k .nothing) s = .next shut ∧
      exec (.joinWindowClose ago k .undecodable) s =
        .next { shut with counters := { s.counters with joinCollisions := min (s.counters.joinCollisions + 1) 65535 } } ∧
      ∀ bytes,
        (JoinBody.read bytes = none → exec (.joinWindowClose ago k (.passed bytes)) s =
          .next { shut with counters := { s.counters with joinCollisions := min (s.counters.joinCollisions + 1) 65535 } }) ∧
        ∀ j, JoinBody.read bytes = some j →
          let heard := { s.counters with joinBursts := min (s.counters.joinBursts + 1) 65535 }
          ((∃ b ∈ s.bars, b.car = j.car) → exec (.joinWindowClose ago k (.passed bytes)) s =
            .next { shut with counters := { heard with joinsBarred := min (s.counters.joinsBarred + 1) 65535 } }) ∧
          ((∀ b ∈ s.bars, b.car ≠ j.car) →
            ((∃ a ∈ s.answers, a.car = j.car) →
              exec (.joinWindowClose ago k (.passed bytes)) s = .next { shut with counters := heard }) ∧
            ((∀ a ∈ s.answers, a.car ≠ j.car) → 8 ≤ s.answers.length →
              exec (.joinWindowClose ago k (.passed bytes)) s =
                .next { shut with counters := { heard with joinsDropped := min (s.counters.joinsDropped + 1) 65535 } })))) ∧
  ∀ (ago : Fin 3) (k : Fin 4) (bytes : List Byte) (j : JoinBody) (s : State), s.Quiescent → k ∈ (s.engine.planOf ago).joins →
    JoinBody.read bytes = some j → (∀ b ∈ s.bars, b.car ≠ j.car) → (∀ a ∈ s.answers, a.car ≠ j.car) →
    s.answers.length < 8 →
    let base := { s.withPlanOf ago { s.engine.planOf ago with joins := (s.engine.planOf ago).joins.erase k } with
      counters := { s.counters with joinBursts := min (s.counters.joinBursts + 1) 65535 } }
    let c := Instr.joinWindowClose ago k (.passed bytes)
    let round := (s.engine.planOf ago).round
    let sample := min (4 * j.margin) 252
    let cls := if s.live.link.promote ≤ sample then RateClass.a else if sample < s.live.link.demote then .c else .b
    (s.findCar j.car = none → s.firstFree = none →
      exec c s = .next { base with answers := s.answers ++ [{ car := j.car, result := .denial .noRoom }] }) ∧
    (∀ i, s.findCar j.car = none → s.firstFree = some i →
      (s.live.roster.admission = .auto →
        ((∀ code : Code, 1 ≤ code.toNat → code.toNat ≤ max j.requested.toNat 1 → s.fitsOneMore code cls = false) →
          exec c s = .next { base with answers := s.answers ++ [{ car := j.car, result := .denial .noAirtime }] }) ∧
        (∀ code : Code, 1 ≤ code.toNat → code.toNat ≤ max j.requested.toNat 1 → s.fitsOneMore code cls = true →
          (∀ d : Code, code.toNat < d.toNat → d.toNat ≤ max j.requested.toNat 1 → s.fitsOneMore d cls = false) →
          exec c s = .next { base.setEntry i { Entry.vacant with
              state := .joining, car := j.car, granted := code, cls := some cls, wanted := some cls, score := sample
              lastHeard := round } with
            order := s.order ++ [i]
            answers := s.answers ++ [{ car := j.car, result := .place i code cls }] })) ∧
      (s.live.roster.admission = .confirm → exec c s = .next (notify
        (.joinAsked j.car i j.requested sample j.carType j.build) (base.setEntry i { Entry.vacant with
          state := .pending, car := j.car, requested := j.requested, joinSample := sample
          confirmTimer := s.live.roster.confirmTimeout, lastHeard := round })))) ∧
    (∀ i, s.findCar j.car = some i →
      let e := s.entry i
      let resynced := { e with
        state := .joining, lastSeq := none, nextSeq := 0, missed := 0, lastHeard := round, candidate := none
        nbrScore := 0, leadCount := 0, upCount := 0, peer := none, phaseTimer := none, target := none
        commands := (match e.commands with | [] => [] | k :: ks => { k with seqUsed := none } :: ks) }
      let place : Answer := { car := e.car, result := .place i e.granted e.rate }
      (e.state = .pending → exec c s = .next (base.setEntry i { e with lastHeard := round })) ∧
      (e.state = .arriving → exec c s =
        .next { base.setEntry i { e with lastHeard := round } with answers := s.answers ++ [place] }) ∧
      (e.state = .joining ∨ e.state = .active → exec c s =
        .next { base.setEntry i resynced with answers := s.answers ++ [place] }) ∧
      (e.state = .offering ∨ e.state = .moving → exec c s =
        .next { (sendToPeer e.peer (.cancel e.car) base).setEntry i resynced with answers := s.answers ++ [place] }))

/-- ADMIT: refused TOO_LATE, BAD_STATE, QUEUE_FULL or NO_AIRTIME, else the PENDING entry becomes JOINING at the end of the order table
with the class of its sample, its granted allowance and its answer (R29, R36, R38). That QUEUE_FULL also refuses a car whose answer is
waiting is log 22, and that it goes before NO_AIRTIME is log 35. DENY and EVICT: refused for a car they do not find, DENY also
BAD_STATE for an entry that is not PENDING; otherwise the entry is freed, DENY queues a denial when the list has room, EVICT sends
CANCEL from OFFERING and MOVING, and a bar count above 0 adds a bar (R29, R39, R46, R47). -/
def Obligations.AdmitDenyEvictDecided : Prop :=
  (∀ (tag : Byte) (car : CarNumber) (s : State), s.Takes (.admitCar tag car) →
    let c := Instr.admitCar tag car
    (car = 0 → exec c s = .next (s.answered c .badValue [])) ∧
    (car ≠ 0 → s.findCar car = none → exec c s = .next (s.answered c .tooLate [])) ∧
    ∀ i, car ≠ 0 → s.findCar car = some i →
      let e := s.entry i
      let cls := if s.live.link.promote ≤ e.joinSample then RateClass.a
        else if e.joinSample < s.live.link.demote then .c else .b
      (e.state ≠ .pending → exec c s = .next (s.answered c .badState [])) ∧
      (e.state = .pending → 8 ≤ s.answers.length ∨ s.answerWaits car = true → exec c s = .next (s.answered c .queueFull [])) ∧
      (e.state = .pending → s.answers.length < 8 → s.answerWaits car = false →
        ((∀ code : Code, 1 ≤ code.toNat → code.toNat ≤ max e.requested.toNat 1 → s.fitsOneMore code cls = false) →
          exec c s = .next (s.answered c .noAirtime [])) ∧
        (∀ code : Code, 1 ≤ code.toNat → code.toNat ≤ max e.requested.toNat 1 → s.fitsOneMore code cls = true →
          (∀ d : Code, code.toNat < d.toNat → d.toNat ≤ max e.requested.toNat 1 → s.fitsOneMore d cls = false) →
          exec c s = .next
            { (s.answered c .ok [byteOf i.val, byteOf cls.code, byteOf code.toNat]).setEntry i { Entry.vacant with
                state := .joining, car := car, granted := code, cls := some cls, wanted := some cls
                score := e.joinSample, lastHeard := e.lastHeard } with
              order := s.order ++ [i]
              answers := s.answers ++ [{ car := car, result := .place i code cls }] }))) ∧
  ∀ (tag : Byte) (car : CarNumber) (bar : Half) (s : State),
    (s.Takes (.deny tag car bar) →
      let c := Instr.deny tag car bar
      (car = 0 → exec c s = .next (s.answered c .badValue [])) ∧
      (car ≠ 0 → s.findCar car = none → exec c s = .next (s.answered c .tooLate [])) ∧
      ∀ i, car ≠ 0 → s.findCar car = some i →
        ((s.entry i).state ≠ .pending → exec c s = .next (s.answered c .badState [])) ∧
        ((s.entry i).state = .pending → exec c s = .next (addBar car bar.toNat (addAnswer
          { car := car, result := .denial .denied } (freeEntry i none .evicted (s.answered c .ok [])))))) ∧
    (s.Takes (.evict tag car bar) →
      let c := Instr.evict tag car bar
      (car = 0 → exec c s = .next (s.answered c .badValue [])) ∧
      (car ≠ 0 → s.findCar car = none → exec c s = .next (s.answered c .unknownCar [])) ∧
      ∀ i, car ≠ 0 → s.findCar car = some i →
        let freed := freeEntry i none .evicted (s.answered c .ok [])
        ((s.entry i).state ≠ .offering → (s.entry i).state ≠ .moving → exec c s = .next (addBar car bar.toNat freed)) ∧
        ((s.entry i).state = .offering ∨ (s.entry i).state = .moving → exec c s =
          .next (addBar car bar.toNat (sendToPeer (s.entry i).peer (.cancel car) freed))))

/-- A join answer is added at the tail when the list of 8 has room and holds none for its car, and left out otherwise (R41). A bar
with a count above 0 replaces its car's count in place, else joins the end, in a full list of 8 in the place of the bar with the
fewest rounds remaining, the nearest the head of several (R47). -/
def Obligations.AnswersAndBarsAdded : Prop :=
  (∀ (a : Answer) (s : State),
    (s.answers.length < 8 → (∀ x ∈ s.answers, x.car ≠ a.car) → addAnswer a s = { s with answers := s.answers ++ [a] }) ∧
    (8 ≤ s.answers.length ∨ (∃ x ∈ s.answers, x.car = a.car) → addAnswer a s = s)) ∧
  ∀ (car : CarNumber) (n : Nat) (s : State),
    (n = 0 → addBar car n s = s) ∧
    (1 ≤ n →
      (∀ pre b post, s.bars = pre ++ b :: post → b.car = car → (∀ x ∈ pre ++ post, x.car ≠ car) →
        addBar car n s = { s with bars := pre ++ { car := car, rounds := n } :: post }) ∧
      ((∀ x ∈ s.bars, x.car ≠ car) →
        (s.bars.length < 8 → addBar car n s = { s with bars := s.bars ++ [{ car := car, rounds := n }] }) ∧
        (8 ≤ s.bars.length → ∀ pre b post, s.bars = pre ++ b :: post → b.rounds ≤ 65535 →
          (∀ x ∈ pre, b.rounds < x.rounds) → (∀ x ∈ post, b.rounds ≤ x.rounds) →
          addBar car n s = { s with bars := pre ++ post ++ [{ car := car, rounds := n }] })))

/-- What freeing an entry does, and all that it does (R48, R100): the entry vacant, out of the order table, its plan positions
stale for the rest of the round, its place answer gone, the notice that reports it, and UNDELIVERED for each command it held. That
the two plans before become stale with it is log 18, and that a denial answer stays is log 17. -/
def Obligations.FreeingEntry : Prop :=
  ∀ (i : Index) (note : Option Notice) (r : UndeliveredReason) (s : State),
    let t := freeEntry i note r s
    let stale := fun p : Position => { p with stale := p.stale || decide (p.index = i) }
    t = { s with
      roster := t.roster, order := s.order.erase i
      answers := s.answers.filter fun a => !(match a.result with
        | .place .. => a.car == (s.entry i).car
        | .denial _ => false)
      engine := { s.engine with
        plan := { s.engine.plan with positions := s.engine.plan.positions.map stale }
        prev := { s.engine.prev with positions := s.engine.prev.positions.map stale }
        older := { s.engine.older with positions := s.engine.older.positions.map stale } }
      control := (notifyAll (note.toList ++
        (s.entry i).commands.map fun k => .undelivered k.number (s.entry i).car r k.sent) s).control } ∧
    t.entry i = Entry.vacant ∧ ∀ j, j ≠ i → t.entry j = s.entry j

/-- SET_ORDER is taken in any engine state: a list of the indices that is a permutation of the order table becomes it at once,
and any other is refused BAD_ORDER and changes nothing (R31). -/
def Obligations.SetOrderNeedsPermutation : Prop :=
  ∀ (tag : Byte) (list : List Byte) (s : State), s.Takes (.setOrder tag list) →
    let c := Instr.setOrder tag list
    (∀ is : List Index, list = is.map (fun i => byteOf i.val) → is.Perm s.order →
      exec c s = .next { s.answered c .ok [] with order := is }) ∧
    ((∀ is : List Index, list = is.map (fun i => byteOf i.val) → ¬ is.Perm s.order) →
      exec c s = .next (s.answered c .badOrder []))

/-! ### The command pool, the receive queues, the counters (4, 5, 9) -/

/-- SEND by the first line of R89 that applies, WITHDRAW by whether the command is there and was sent, BROADCAST by its length,
its flag and the room in the queue: a refusal changes nothing, an acceptance answers with the number given, the first unused from the
next one on, counting upward and wrapping to 1; the slots that carried an earlier command of that number name it no more (R89, R90, R94,
R98, R102). That a BROADCAST out of range is BAD_VALUE though the queue holds 4 is log 35. -/
def Obligations.PoolRequestsDecided : Prop :=
  (∀ tag car kind payload expiry flag (s : State), let c := Instr.send tag car kind payload expiry flag
    s.Takes c →
    (car = 0 ∨ 60 < kind.toNat ∨ (flag ≠ 0 ∧ flag ≠ 1) → exec c s = .next (s.answered c .badValue [])) ∧
    (car ≠ 0 → kind.toNat ≤ 60 → (flag = 0 ∨ flag = 1) →
      (s.findCar car = none → exec c s = .next (s.answered c .unknownCar [])) ∧
      ∀ i, s.findCar car = some i →
        let e := s.entry i
        (e.state = .pending → exec c s = .next (s.answered c .unknownCar [])) ∧
        (e.state = .moving ∨ e.state = .arriving → exec c s = .next (s.answered c .moving [])) ∧
        (e.state = .joining ∨ e.state = .active ∨ e.state = .offering →
          (codeBytes s.image.round.pd < payload.length → exec c s = .next (s.answered c .tooLong [])) ∧
          (payload.length ≤ codeBytes s.image.round.pd → 64 ≤ s.poolCount → exec c s = .next (s.answered c .poolFull [])) ∧
          (payload.length ≤ codeBytes s.image.round.pd → s.poolCount < 64 → 8 ≤ e.commands.length →
            exec c s = .next (s.answered c .carFull [])) ∧
          (payload.length ≤ codeBytes s.image.round.pd → s.poolCount < 64 → e.commands.length < 8 →
            1 ≤ s.nextCommand.toNat → ∃ (n : Half) (d : Nat), n ≠ 0 ∧ n.toNat = numberAt 65535 s.nextCommand.toNat d ∧
              (∀ j : Index, ∀ k ∈ (s.entry j).commands, k.number ≠ n) ∧
              (∀ c, c < d → ∃ j : Index, ∃ k ∈ (s.entry j).commands, k.number.toNat = numberAt 65535 s.nextCommand.toNat c) ∧
              exec c s = .next { (s.answered c .ok (halfBytes n.toNat)).setEntry i
                { e with commands := e.commands ++ [{ number := n, kind := kind, payload := payload
                                                      expiry := expiry.toNat, age := 0, attempts := 0, seqUsed := none
                                                      sent := false, notify := flag == 1 }] } with
                engine :=
                  let others := fun (p : Plan) => { p with
                    positions := p.positions.map fun q => if q.sent = .command n then { q with sent := .nothing } else q }
                  { s.engine with plan := others s.engine.plan, prev := others s.engine.prev, older := others s.engine.older }
                nextCommand := if n = 0xFFFF#16 then 1 else n + 1 })))) ∧
  (∀ tag n (s : State), s.Takes (.withdraw tag n) →
    ((∀ i : Index, ∀ k ∈ (s.entry i).commands, k.number ≠ n) →
      exec (.withdraw tag n) s = .next (s.answered (.withdraw tag n) .notFound [])) ∧
    ∀ (i : Index) (k : Command), k ∈ (s.entry i).commands → k.number = n →
      (∀ j : Index, ∀ c ∈ (s.entry j).commands, c.number = n → j = i ∧ c = k) →
      exec (.withdraw tag n) s = .next ((s.answered (.withdraw tag n) (if k.sent then .sentOnce else .ok) []).setEntry i
        { s.entry i with commands := (s.entry i).commands.filter fun c => decide (c.number ≠ n) })) ∧
  ∀ tag payload repeats urgent (s : State), let c := Instr.broadcast tag payload repeats urgent
    s.Takes c →
    (payload = [] ∨ 12 < payload.length ∨ (urgent ≠ 0 ∧ urgent ≠ 1) → exec c s = .next (s.answered c .badValue [])) ∧
    (payload ≠ [] → payload.length ≤ 12 → (urgent = 0 ∨ urgent = 1) →
      (4 ≤ s.broadcasts.length → exec c s = .next (s.answered c .queueFull [])) ∧
      (s.broadcasts.length < 4 → s.nextBroadcast ≠ 0 → ∃ (n : Byte) (d : Nat), n ≠ 0 ∧ n.toNat = numberAt 255 s.nextBroadcast.toNat d ∧
        (∀ b ∈ s.broadcasts, b.id ≠ n) ∧ (∀ c, c < d → ∃ b ∈ s.broadcasts, b.id.toNat = numberAt 255 s.nextBroadcast.toNat c) ∧
        let b : Broadcast := { id := n, payload := payload, repeats := min (max repeats.toNat 1) 8 }
        exec c s = .next { s.answered c .ok [n] with
          broadcasts := if urgent = 1 then b :: s.broadcasts else s.broadcasts ++ [b]
          nextBroadcast := if n = 0xFF#8 then 1 else n + 1 }))

/-- TAKE, PEEK, FLUSH, SURVEY and CLEAR_COUNTS: TAKE returns and removes the oldest records up to its count and to what the reply
holds, PEEK returns the oldest and removes nothing, FLUSH empties the queue; SURVEY acts on an ACTIVE car only; CLEAR_COUNTS sets the
counters of its scope to 0; what they do not know is refused (R82 to R85, R152, R154). The order of the bytes of the FLUSH reply is log
15, and that a SURVEY out of range is BAD_VALUE whatever the car's entry is log 35; the bits of a record's flags byte that no rule
names are log 36, and that 1 is on and 0 off is log 37. -/
def Obligations.QueueSurveyAndClearRequests : Prop :=
  (∀ (tag queue count : Byte) (s : State), 4 ≤ queue.toNat →
    (s.Takes (.take tag queue count) → exec (.take tag queue count) s = .next (s.answered (.take tag queue count) .badValue [])) ∧
    (s.Takes (.peek tag queue) → exec (.peek tag queue) s = .next (s.answered (.peek tag queue) .badValue [])) ∧
    (s.Takes (.flush tag queue) → exec (.flush tag queue) s = .next (s.answered (.flush tag queue) .badValue []))) ∧
  (∀ (tag count : Byte) (q : Fin 4) (s : State),
    let x := s.rx q
    let queue := byteOf q.val
    (s.Takes (.take tag queue count) →
      (x.records = [] → exec (.take tag queue count) s =
        .next (s.answered (.take tag queue count) .empty [queue, 0, byteOf x.lost, 0])) ∧
      (∀ n, 1 ≤ n → n ≤ x.records.length → n ≤ min (max count.toNat 1) 8 →
        ((x.records.take n).map fun r => 16 + r.payload.length).sum ≤ 293 →
        (n = min (max count.toNat 1) 8 ∨ n = x.records.length ∨
          293 < ((x.records.take (n + 1)).map fun r => 16 + r.payload.length).sum) →
        exec (.take tag queue count) s = .next ((s.answered (.take tag queue count) .ok
          ([queue, byteOf (x.records.length - n), byteOf x.lost, byteOf n] ++ (x.records.take n).flatMap (Record.bytes q))).setRx q
          { records := x.records.drop n, lost := x.lost
            episode := x.episode && decide ((s.queueSetting q).depth ≤ x.records.length - n) }))) ∧
    (s.Takes (.peek tag queue) →
      (x.records = [] → exec (.peek tag queue) s = .next (s.answered (.peek tag queue) .empty [queue, 0, byteOf x.lost, 0])) ∧
      ∀ r rs, x.records = r :: rs → exec (.peek tag queue) s = .next (s.answered (.peek tag queue) .ok
        ([queue, byteOf x.records.length, byteOf x.lost, 1] ++ r.bytes q))) ∧
    (s.Takes (.flush tag queue) → exec (.flush tag queue) s = .next ((s.answered (.flush tag queue) .ok
      [queue, 0, byteOf x.lost, byteOf x.records.length]).setRx q { records := [], lost := 0, episode := false }))) ∧
  (∀ (tag : Byte) (car : CarNumber) (value : Byte) (s : State), let c := Instr.survey tag car value
    s.Takes c →
    (car = 0 ∨ (value ≠ 0 ∧ value ≠ 1) → exec c s = .next (s.answered c .badValue [])) ∧
    (car ≠ 0 → (value = 0 ∨ value = 1) →
      (s.findCar car = none → exec c s = .next (s.answered c .badState [])) ∧
      ∀ i, s.findCar car = some i →
        ((s.entry i).state ≠ .active → exec c s = .next (s.answered c .badState [])) ∧
        ((s.entry i).state = .active → exec c s =
          .next ((s.answered c .ok []).setEntry i { s.entry i with survey := value == 1 })))) ∧
  ∀ (tag scope index : Byte) (s : State), let c := Instr.clearCounts tag scope index
    s.Takes c →
    let cleared := { s.answered c .ok [] with
      counters := NodeCounters.zero
      ports := { up := { s.ports.up with counters := PortCounters.zero }
                 down := { s.ports.down with counters := PortCounters.zero } } }
    (scope = 0 → exec c s = .next cleared) ∧
    (∀ i : Index, scope = 1 → index = byteOf i.val → exec c s = .next ((s.answered c .ok []).setEntry i
      { s.entry i with good := 0, failed := 0, corrected := 0 })) ∧
    (scope = 2 → ∃ t, exec c s = .next t ∧ t = { cleared with roster := t.roster } ∧
      ∀ i : Index, t.entry i = { s.entry i with good := 0, failed := 0, corrected := 0 }) ∧
    (3 ≤ scope.toNat ∨ (scope = 1 ∧ 24 ≤ index.toNat) → exec c s = .next (s.answered c .badValue []))

/-! ### Blast quiet (8) -/

/-- A claim, by the line or by QUIET on: recorded; while OPEN it sets resume-pending and leads to DRAINING while something is on the
air and to SILENT with QUIET_BEGIN otherwise; a round in progress is abandoned, its windows closed but for those in which a burst has
begun, the open ones of surveyed patterns reporting no echo, a STEPPING engine pausing with ROUND_DONE, a STOPPING one stopping with
STOPPED, both before QUIET_BEGIN; QUIET answers with the state it leads to (R23, R139 to R142, R144). That the moment of the claim is
an operand is log 12, and that the reports come before the engine's notice is log 13; that 1 is on and a claim held is 1 is log 37. -/
def Obligations.QuietClaimSilences : Prop :=
  ∀ (m : Moment) (s : State),
    let quietBegins := fun (q : Quiet) (u : State) =>
      notify (.quietBegin q.lineClaim q.hostClaim) { u with
        engine := { s.engine with resumePending := true, radio := none }
        quiet := { q with state := .silent, timer := 0, ack := true } }
    let isOpen := fun p : Position => p.start + p.d + 5 ≤ m.offset
    let silentAt := (List.range s.engine.plan.positions.length).filterMap fun k =>
      (s.engine.plan.positions[k]?).filter fun p =>
        decide (p.closed = false ∧ p.stale = false ∧ isOpen p ∧ (∀ j ∈ m.bursts, j.val ≠ k) ∧ (s.entry p.index).survey = true)
    let reports := silentAt.filterMap fun p => match p.sent with
      | .pattern v => some (s.surveyReportOf s.engine.plan.round p v [] 0 0)
      | _ => none
    let abandons := fun (q : Quiet) (u t : State) =>
      t.roster = s.roster ∧ t.order = s.order ∧ t.answers = s.answers ∧ t.broadcasts = s.broadcasts ∧ t.ports = s.ports ∧
      t.counters = s.counters ∧ t.image = s.image ∧ t.live = s.live ∧ t.store = s.store ∧
      t.engine.inProgress = false ∧ t.engine.resumePending = true ∧ t.engine.round = s.engine.round ∧
      t.engine.prev = s.engine.prev ∧ t.engine.older = s.engine.older ∧
      (s.engine.state = .running → t.engine.state = .running) ∧
      (s.engine.state = .stepping → t.engine.state = .paused) ∧
      (s.engine.state = .stopping → t.engine.state = .stopped) ∧
      ((∃ b, s.engine.radio = some b ∧ m.offset < b.ends) →
        t.quiet = { q with state := .draining } ∧ t.engine.radio = s.engine.radio) ∧
      (s.engine.radio = none ∨ (∃ b, s.engine.radio = some b ∧ b.ends ≤ m.offset) →
        t.quiet = { q with state := .silent, timer := 0, ack := true } ∧ t.engine.radio = none) ∧
      (∀ k : Nat, t.engine.plan.positions[k]? = (s.engine.plan.positions[k]?).map fun p : Position =>
        { p with closed := p.closed || !(decide (isOpen p ∧ ∃ j ∈ m.bursts, j.val = k)) }) ∧
      t.engine.plan.joins = (s.engine.plan.joins.filter fun j =>
        decide (j ∈ m.joins ∧ s.engine.plan.joinStart + 80 * j.val ≤ m.offset)) ∧
      (∀ reported, reported = reports.foldl (fun u r => deposit s.image.queues.survey r u) u →
        t.queues = reported.queues ∧ t.control = (notifyAll ((match s.engine.state with
            | .stepping => [.roundDone s.engine.round true]
            | .stopping => [.stopped s.engine.round]
            | _ => []) ++
          (if t.quiet.state = .silent then [.quietBegin q.lineClaim q.hostClaim] else [])) reported).control)
    (s.Quiescent → s.quiet.lineClaim = true → exec (.lineClaimArrives m) s = .next s) ∧
    (s.Quiescent → s.quiet.lineClaim = false →
      let q := { s.quiet with lineClaim := true }
      (s.quiet.state ≠ .opened → exec (.lineClaimArrives m) s = .next { s with quiet := q }) ∧
      (s.quiet.state = .opened → s.engine.inProgress = false →
        exec (.lineClaimArrives m) s = .next (quietBegins q s)) ∧
      (s.quiet.state = .opened → s.engine.inProgress = true →
        ∃ t, exec (.lineClaimArrives m) s = .next t ∧ abandons q s t)) ∧
    ∀ tag value : Byte, let c := Instr.quiet tag value m
      s.Takes c →
      (value ≠ 0 → value ≠ 1 → exec c s = .next (s.answered c .badValue [])) ∧
      (value = 1 → s.quiet.hostClaim = true → exec c s = .next (s.answered c .ok s.quiet.replyBytes)) ∧
      (value = 1 → s.quiet.hostClaim = false →
        let q := { s.quiet with hostClaim := true }
        (s.quiet.state ≠ .opened → exec c s = .next { s.answered c .ok q.replyBytes with quiet := q }) ∧
        (s.quiet.state = .opened → s.engine.inProgress = false → exec c s = .next (quietBegins q
          (s.answered c .ok { q with state := .silent, timer := 0, ack := true }.replyBytes))) ∧
        (s.quiet.state = .opened → s.engine.inProgress = true →
          ∃ t, exec c s = .next t ∧ abandons q (s.answered c .ok t.quiet.replyBytes) t))

/-- The end of quiet: the last claim withdrawn in SILENT reopens with QUIET_END, one withdrawn while another is held or in DRAINING
only clears it, the end of draining leads to SILENT with a claim and to OPEN without one; a tick counts in SILENT only, and every
breach is counted and reported (R139, R143 to R145, R147). That a drain end outside DRAINING and a tick outside SILENT do nothing is
log 8; that a breach is taken in any quiet state and names the last round begun is log 31; that QUIET with 0 is off is log 37. -/
def Obligations.QuietEnds : Prop :=
  ∀ s : State,
    (s.Quiescent →
      (s.quiet.lineClaim = false → exec .lineClaimWithdrawn s = .next s) ∧
      (s.quiet.lineClaim = true →
        let q := { s.quiet with lineClaim := false }
        (s.quiet.state ≠ .silent ∨ s.quiet.hostClaim = true → exec .lineClaimWithdrawn s = .next { s with quiet := q }) ∧
        (s.quiet.state = .silent → s.quiet.hostClaim = false → exec .lineClaimWithdrawn s = .next (notify
          (.quietEnd s.quiet.timer) { s with quiet := { q with state := .opened, ack := false } }))) ∧
      (s.quiet.state ≠ .draining → exec .drainEnd s = .next s) ∧
      (s.quiet.state = .draining →
        (s.quiet.claimed = false → exec .drainEnd s = .next { s with
          engine := { s.engine with radio := none }, quiet := { s.quiet with state := .opened } }) ∧
        (s.quiet.claimed = true → exec .drainEnd s = .next (notify (.quietBegin s.quiet.lineClaim s.quiet.hostClaim) { s with
          engine := { s.engine with radio := none }
          quiet := { s.quiet with state := .silent, timer := 0, ack := true } }))) ∧
      (s.quiet.state ≠ .silent → exec .quietTimerTick s = .next s) ∧
      (s.quiet.state = .silent → exec .quietTimerTick s =
        .next { s with quiet := { s.quiet with timer := min (s.quiet.timer + 1) 65535 } }) ∧
      ∀ car silent, exec (.quietBreach car silent) s = .next (notify
        (.quietBreach (car.getD 0) (if silent then .silent else .draining) s.engine.round)
        { s with counters := { s.counters with breaches := min (s.counters.breaches + 1) 65535 } })) ∧
    ∀ tag m, let c := Instr.quiet tag 0 m
      s.Takes c →
      (s.quiet.hostClaim = false → exec c s = .next (s.answered c .ok s.quiet.replyBytes)) ∧
      (s.quiet.hostClaim = true →
        let q := { s.quiet with hostClaim := false }
        (s.quiet.state ≠ .silent ∨ s.quiet.lineClaim = true →
          exec c s = .next { s.answered c .ok q.replyBytes with quiet := q }) ∧
        (s.quiet.state = .silent → s.quiet.lineClaim = false →
          let q' := { q with state := .opened, ack := false }
          exec c s = .next (notify (.quietEnd s.quiet.timer) { s.answered c .ok q'.replyBytes with quiet := q' })))

/-! ### Handover and the chain ports (6, 7) -/

/-- A handover frame is submitted on the port facing its peer, this node its source, its hop count 0; one to a node that is no
neighbour is not sent (log 8). A frame that passed the tests is counted in frames in, brings the port UP and leaves the receiver
hunting. Between frames the transmitter sends fill, 0x55, and in reset nothing (R105, R127 to R129). -/
def Obligations.ChainFramesAddressed : Prop :=
  (∀ (p : PortId) (dst : Byte) (b : ChainBody) (s : State), sendHandover p dst b s = s.setPort p
    ((s.port p).submitHandover { src := s.image.node.node, dst := dst, hop := 0, body := b })) ∧
  (∀ (b : ChainBody) (s : State), sendToPeer none b s = s ∧ ∀ n : Byte,
    (n ≠ 0 → n = s.image.node.upNeighbour → sendToPeer (some n) b s = sendHandover .up n b s) ∧
    (n ≠ 0 → n ≠ s.image.node.upNeighbour → n = s.image.node.downNeighbour →
      sendToPeer (some n) b s = sendHandover .down n b s) ∧
    (n = 0 ∨ (n ≠ s.image.node.upNeighbour ∧ n ≠ s.image.node.downNeighbour) → sendToPeer (some n) b s = s)) ∧
  (∀ x : Port, x.frameIn = { x with
    isUp := true, receiver := .hunting, counters := { x.counters with framesIn := min (x.counters.framesIn + 1) 65535 } }) ∧
  ∀ (p : PortId) (s : State),
    (s.inReset = true → s.portSends p = []) ∧
    (s.inReset = false → ((s.port p).line = none → s.portSends p = [0x55]) ∧
      ∀ f, (s.port p).line = some f → s.portSends p = chainFrameBytes f)

/-- OFFER_RECEIVED: screened for its addresses, then for its fields, then decided: REFUSE with the reason of R116's first line that
applies, or the lowest FREE entry reserved as ARRIVING and ACCEPT queued (R105, R106, R116, R117). That
an allowance byte above 15 is out of range is log 28. -/
def Obligations.OfferDecided : Prop :=
  ∀ (p : PortId) (src dst : Byte) (b : OfferBody) (s : State), s.Quiescent →
    let base := s.updatePort p Port.frameIn
    let c := Instr.offerReceived p src dst b
    let refuse := fun r : RefuseReason => sendHandover p src (.refuse b.car (byteOf r.code)) base
    ((s.neighbour p = 0 ∨ src ≠ s.neighbour p ∨ dst ≠ s.image.node.node) → exec c s = .next { base with
      counters := { s.counters with misaddressed := min (s.counters.misaddressed + 1) 65535 } }) ∧
    (s.neighbour p ≠ 0 → src = s.neighbour p → dst = s.image.node.node →
      ((b.car = 0 ∨ 3 ≤ b.cls.toNat ∨ b.allowance = 0 ∨ 16 ≤ b.allowance.toNat ∨ (16 ≤ b.lastSeq.toNat ∧ b.lastSeq ≠ 0xFF) ∨
          16 ≤ b.nextSeq.toNat) →
        exec c s = .next { base with counters := { s.counters with stray := min (s.counters.stray + 1) 65535 } }) ∧
      ∀ (cls : RateClass) (code : Code) (last : Option Seq) (next : Seq), b.car ≠ 0 → b.cls = byteOf cls.code →
        b.allowance = code.zeroExtend 8 → code ≠ 0 → b.lastSeq = seqByte last → b.nextSeq = next.zeroExtend 8 →
        (s.engine.state = .stopped → exec c s = .next (refuse .stopped)) ∧
        (s.engine.state ≠ .stopped →
          (∀ i, s.findCar b.car = some i →
            ((s.entry i).state = .arriving ∨ (s.entry i).state = .pending → exec c s = .next (refuse .busy)) ∧
            ((s.entry i).state ≠ .arriving → (s.entry i).state ≠ .pending → exec c s = .next (refuse .present))) ∧
          (s.findCar b.car = none → s.firstFree = none → exec c s = .next (refuse .full)) ∧
          (∀ i, s.findCar b.car = none → s.firstFree = some i →
            (s.fitsOneMore code cls = false → exec c s = .next (refuse .airtime)) ∧
            (s.fitsOneMore code cls = true → exec c s = .next (sendHandover p src
              (.accept { car := b.car, index := byteOf i.val, channel := s.image.node.channel, cls := b.cls })
              { base.setEntry i { Entry.vacant with
                  state := .arriving, car := b.car, granted := code, cls := some cls, wanted := some cls
                  score := b.score.toNat, lastSeq := last, nextSeq := next, survey := b.survey.getLsbD 0
                  peer := some src, phaseTimer := some s.live.handover.arrivalTimeout
                  lastHeard := s.engine.round } with
                order := s.order ++ [i] })))))

/-- ACCEPT, REFUSE, DONE and CANCEL received from the neighbour at the port to this node: ACCEPT in OFFERING leads to MOVING, out of
place it is answered with CANCEL; REFUSE in OFFERING leads back to ACTIVE, or with PRESENT hands the car over; DONE in OFFERING and
MOVING hands it over; CANCEL in ARRIVING frees the entry; out of place, and with a car number or a field out of range, they are
stray; wrongly addressed they are misaddressed (R106, R110, R112, R113, R120 to R122). -/
def Obligations.HandoverRepliesActed : Prop :=
  ∀ (p : PortId) (src dst : Byte) (a : AcceptBody) (car : CarNumber) (reason : Byte) (s : State), s.Quiescent →
    let base := s.updatePort p Port.frameIn
    let stray := { base with counters := { s.counters with stray := min (s.counters.stray + 1) 65535 } }
    let others := [Instr.refuseReceived p src dst car reason, .doneReceived p src dst car, .cancelReceived p src dst car]
    ((s.neighbour p = 0 ∨ src ≠ s.neighbour p ∨ dst ≠ s.image.node.node) →
      ∀ c ∈ Instr.acceptReceived p src dst a :: others, exec c s = .next { base with
        counters := { s.counters with misaddressed := min (s.counters.misaddressed + 1) 65535 } }) ∧
    (s.neighbour p ≠ 0 → src = s.neighbour p → dst = s.image.node.node →
      (a.car = 0 ∨ 24 ≤ a.index.toNat ∨ 16 ≤ a.channel.toNat ∨ 3 ≤ a.cls.toNat →
        exec (.acceptReceived p src dst a) s = .next stray) ∧
      (∀ cls : RateClass, a.car ≠ 0 → a.index.toNat ≤ 23 → a.channel.toNat ≤ 15 → a.cls = byteOf cls.code →
        (∀ i, s.findCar a.car = some i → (s.entry i).state = .offering → (s.entry i).peer = some src →
          exec (.acceptReceived p src dst a) s = .next (base.setEntry i { s.entry i with
            state := .moving, phaseTimer := some s.live.handover.moveTimeout
            target := some { index := a.index, channel := a.channel, cls := cls } })) ∧
        ((∀ i, s.findCar a.car = some i → (s.entry i).state ≠ .offering ∨ (s.entry i).peer ≠ some src) →
          exec (.acceptReceived p src dst a) s = .next (sendHandover p src (.cancel a.car) base))) ∧
      (car = 0 → ∀ c ∈ others, exec c s = .next stray) ∧
      (reason = 0 ∨ 6 ≤ reason.toNat → exec (.refuseReceived p src dst car reason) s = .next stray) ∧
      (car ≠ 0 →
        ((∀ i, s.findCar car = some i → (s.entry i).peer ≠ some src) → ∀ c ∈ others, exec c s = .next stray) ∧
        ∀ i, s.findCar car = some i → (s.entry i).peer = some src →
          let e := s.entry i
          let gone := fun present : Bool => freeEntry i (some (.handedOver car i src present)) .moved base
          (e.state ≠ .offering → exec (.refuseReceived p src dst car reason) s = .next stray) ∧
          (e.state = .offering → reason = 4 → exec (.refuseReceived p src dst car reason) s = .next (gone true)) ∧
          (e.state = .offering → ∀ r, RefuseReason.ofCode reason.toNat = some r → r ≠ .present →
            exec (.refuseReceived p src dst car reason) s = .next (notify (.handoverRefused car i src r) (base.setEntry i
              { e with state := .active, peer := none, phaseTimer := none, target := none, leadCount := 0 }))) ∧
          (e.state = .offering ∨ e.state = .moving →
            exec (.doneReceived p src dst car) s = .next (gone false)) ∧
          (e.state ≠ .offering → e.state ≠ .moving → exec (.doneReceived p src dst car) s = .next stray) ∧
          (e.state = .arriving → exec (.cancelReceived p src dst car) s = .next
            (freeEntry i (some (.arrivalCancelled car i src)) .moved base)) ∧
          (e.state ≠ .arriving → exec (.cancelReceived p src dst car) s = .next stray)))

/-- PASS_RECEIVED: with its addresses not tested, a PASS frame is delivered to the portal queue at a SELF node, relayed with one hop
more toward the portal elsewhere, and dropped and counted when it comes from the portal's side or has made too many hops; a payload
of a wrong length makes it a bad frame (R129, R130, R135, R136). -/
def Obligations.PassRelayed : Prop :=
  ∀ (p : PortId) (src dst hop : Byte) (b : PassBody) (s : State), s.Quiescent →
    let base := s.updatePort p Port.frameIn
    let dropped := fun f : PortCounters → PortCounters => base.updatePort p fun x => { x with counters := f x.counters }
    let c := Instr.passReceived p src dst hop b
    let hops := dropped fun n => { n with hopLimit := min (n.hopLimit + 1) 65535 }
    (b.payload = [] ∨ 64 < b.payload.length → exec c s = .next (s.updatePort p Port.badFrame)) ∧
    (b.payload ≠ [] → b.payload.length ≤ 64 →
      (s.image.node.portal = .self →
        (hop.toNat ≤ 31 → exec c s = .next (deposit s.image.queues.portal
          { car := b.car, kind := b.kind, received := b.payload.length, stamp := b.stamp, offset := 0, margin := b.margin
            corrections := b.corrections, truncated := false, relayed := true, survey := false, origin := b.origin
            payload := b.payload } base)) ∧
        (32 ≤ hop.toNat → exec c s = .next hops)) ∧
      ∀ q, s.portalPort = some q →
        (p = q → exec c s = .next (dropped fun n => { n with wrongDirection := min (n.wrongDirection + 1) 65535 })) ∧
        (p ≠ q → 31 ≤ hop.toNat → exec c s = .next hops) ∧
        (p ≠ q → hop.toNat ≤ 30 → exec c s = .next (base.updatePort q (Port.submitPass
          { src := s.image.node.node, dst := 0, hop := hop + 1, body := .pass b }))))

/-- The line of a chain port: a byte with a good stop bit brings it UP, 50 ms without one bring it DOWN with its queued frames
dropped and a frame being received counted as bad, a bad frame is counted, and the end of a frame on the line takes the next one,
handover frames first; the other port is untouched (R128, R129, R131 to R133, R137). That the end of a frame on a resting line
changes nothing is log 8, and what is held of a frame that comes as its row alone is log 3. -/
def Obligations.ChainLineEvents : Prop :=
  ∀ (p : PortId) (s : State), s.Quiescent →
    let x := s.port p
    let become := fun y : Port => s.setPort p y
    exec (.portUp p) s = .next (become { x with isUp := true }) ∧
    (∀ heard : Bool, (x.receiver = .hunting → heard = true) → (∀ bs, x.receiver = .inside bs → heard = bs.any LineByte.stop) →
      exec (.chainBadFrame p) s = .next (become { x with
        isUp := x.isUp || heard, receiver := .hunting
        counters := { x.counters with bad := min (x.counters.bad + 1) 65535 } })) ∧
    (∀ receiving, x.isUp = false → exec (.portDown p receiving) s = .next s) ∧
    (∀ receiving, x.isUp = true → exec (.portDown p receiving) s = .next (become { x with
      isUp := false, receiver := .hunting, handover := [], passAlong := []
      counters := { x.counters with
        dropped := min (x.counters.dropped + x.handover.length + x.passAlong.length) 65535
        bad := if x.receiver = .hunting ∧ receiving = false then x.counters.bad else min (x.counters.bad + 1) 65535 } })) ∧
    (x.line = none → exec (.chainFrameSent p) s = .next s) ∧
    (∀ f, x.line = some f →
      let sent := { x.counters with framesOut := min (x.counters.framesOut + 1) 65535 }
      (∀ h hs, x.handover = h :: hs →
        exec (.chainFrameSent p) s = .next (become { x with counters := sent, line := some h, handover := hs })) ∧
      (∀ h hs, x.handover = [] → x.passAlong = h :: hs →
        exec (.chainFrameSent p) s = .next (become { x with counters := sent, line := some h, passAlong := hs })) ∧
      (x.handover = [] → x.passAlong = [] →
        exec (.chainFrameSent p) s = .next (become { x with counters := sent, line := none }))) ∧
    (∀ f : ChainFrame, let y := x.submitHandover f
      (x.isUp = true → x.handover.length < 8 → x.line ≠ none → y = { x with handover := x.handover ++ [f] }) ∧
      (x.isUp = true → x.handover = [] → x.line = none → y = { x with line := some f }) ∧
      (x.isUp = false ∨ 8 ≤ x.handover.length →
        y = { x with counters := { x.counters with dropped := min (x.counters.dropped + 1) 65535 } })) ∧
    ∀ f : ChainFrame, let y := x.submitPass f
      (x.isUp = true → x.passAlong.length < 16 → x.line ≠ none → y = { x with passAlong := x.passAlong ++ [f] }) ∧
      (x.isUp = true → x.handover = [] → x.passAlong = [] → x.line = none → y = { x with line := some f }) ∧
      (x.isUp = false ∨ 16 ≤ x.passAlong.length →
        y = { x with counters := { x.counters with dropped := min (x.counters.dropped + 1) 65535 } })
end

