-- ==== Sys2Proof/Laws/State.lean ====
section
/-!
SUPPORT. For each update of the state and each shared operation: the fields of State that it leaves as they are, one lemma for
a field, so that no proof unfolds a record update.
-/
namespace Sys2Proof.Machine

/-! ### notify -/

@[simp] theorem notify_pending (s : State) (n : Notice) : (notify n s).pending = s.pending := rfl
@[simp] theorem notify_arrivals (s : State) (n : Notice) : (notify n s).arrivals = s.arrivals := rfl
@[simp] theorem notify_inReset (s : State) (n : Notice) : (notify n s).inReset = s.inReset := rfl
@[simp] theorem notify_image (s : State) (n : Notice) : (notify n s).image = s.image := rfl
@[simp] theorem notify_live (s : State) (n : Notice) : (notify n s).live = s.live := rfl
@[simp] theorem notify_unapplied (s : State) (n : Notice) : (notify n s).unapplied = s.unapplied := rfl
@[simp] theorem notify_store (s : State) (n : Notice) : (notify n s).store = s.store := rfl
@[simp] theorem notify_engine (s : State) (n : Notice) : (notify n s).engine = s.engine := rfl
@[simp] theorem notify_roster (s : State) (n : Notice) : (notify n s).roster = s.roster := rfl
@[simp] theorem notify_order (s : State) (n : Notice) : (notify n s).order = s.order := rfl
@[simp] theorem notify_answers (s : State) (n : Notice) : (notify n s).answers = s.answers := rfl
@[simp] theorem notify_bars (s : State) (n : Notice) : (notify n s).bars = s.bars := rfl
@[simp] theorem notify_grace (s : State) (n : Notice) : (notify n s).grace = s.grace := rfl
@[simp] theorem notify_nextCommand (s : State) (n : Notice) : (notify n s).nextCommand = s.nextCommand := rfl
@[simp] theorem notify_broadcasts (s : State) (n : Notice) : (notify n s).broadcasts = s.broadcasts := rfl
@[simp] theorem notify_nextBroadcast (s : State) (n : Notice) : (notify n s).nextBroadcast = s.nextBroadcast := rfl
@[simp] theorem notify_queues (s : State) (n : Notice) : (notify n s).queues = s.queues := rfl
@[simp] theorem notify_ports (s : State) (n : Notice) : (notify n s).ports = s.ports := rfl
@[simp] theorem notify_quiet (s : State) (n : Notice) : (notify n s).quiet = s.quiet := rfl
@[simp] theorem notify_counters (s : State) (n : Notice) : (notify n s).counters = s.counters := rfl
@[simp] theorem notify_freeIndex (s : State) (n : Notice) : (notify n s).freeIndex = s.freeIndex := rfl

/-! ### notifyAll -/

@[simp] theorem notifyAll_pending (s : State) (ns : List Notice) : (notifyAll ns s).pending = s.pending := by
  induction ns generalizing s with
  | nil => rfl
  | cons n ns ih => exact (ih (notify n s)).trans (notify_pending s n)
@[simp] theorem notifyAll_arrivals (s : State) (ns : List Notice) : (notifyAll ns s).arrivals = s.arrivals := by
  induction ns generalizing s with
  | nil => rfl
  | cons n ns ih => exact (ih (notify n s)).trans (notify_arrivals s n)
@[simp] theorem notifyAll_inReset (s : State) (ns : List Notice) : (notifyAll ns s).inReset = s.inReset := by
  induction ns generalizing s with
  | nil => rfl
  | cons n ns ih => exact (ih (notify n s)).trans (notify_inReset s n)
@[simp] theorem notifyAll_image (s : State) (ns : List Notice) : (notifyAll ns s).image = s.image := by
  induction ns generalizing s with
  | nil => rfl
  | cons n ns ih => exact (ih (notify n s)).trans (notify_image s n)
@[simp] theorem notifyAll_live (s : State) (ns : List Notice) : (notifyAll ns s).live = s.live := by
  induction ns generalizing s with
  | nil => rfl
  | cons n ns ih => exact (ih (notify n s)).trans (notify_live s n)
@[simp] theorem notifyAll_unapplied (s : State) (ns : List Notice) : (notifyAll ns s).unapplied = s.unapplied := by
  induction ns generalizing s with
  | nil => rfl
  | cons n ns ih => exact (ih (notify n s)).trans (notify_unapplied s n)
@[simp] theorem notifyAll_store (s : State) (ns : List Notice) : (notifyAll ns s).store = s.store := by
  induction ns generalizing s with
  | nil => rfl
  | cons n ns ih => exact (ih (notify n s)).trans (notify_store s n)
@[simp] theorem notifyAll_engine (s : State) (ns : List Notice) : (notifyAll ns s).engine = s.engine := by
  induction ns generalizing s with
  | nil => rfl
  | cons n ns ih => exact (ih (notify n s)).trans (notify_engine s n)
@[simp] theorem notifyAll_roster (s : State) (ns : List Notice) : (notifyAll ns s).roster = s.roster := by
  induction ns generalizing s with
  | nil => rfl
  | cons n ns ih => exact (ih (notify n s)).trans (notify_roster s n)
@[simp] theorem notifyAll_order (s : State) (ns : List Notice) : (notifyAll ns s).order = s.order := by
  induction ns generalizing s with
  | nil => rfl
  | cons n ns ih => exact (ih (notify n s)).trans (notify_order s n)
@[simp] theorem notifyAll_answers (s : State) (ns : List Notice) : (notifyAll ns s).answers = s.answers := by
  induction ns generalizing s with
  | nil => rfl
  | cons n ns ih => exact (ih (notify n s)).trans (notify_answers s n)
@[simp] theorem notifyAll_bars (s : State) (ns : List Notice) : (notifyAll ns s).bars = s.bars := by
  induction ns generalizing s with
  | nil => rfl
  | cons n ns ih => exact (ih (notify n s)).trans (notify_bars s n)
@[simp] theorem notifyAll_grace (s : State) (ns : List Notice) : (notifyAll ns s).grace = s.grace := by
  induction ns generalizing s with
  | nil => rfl
  | cons n ns ih => exact (ih (notify n s)).trans (notify_grace s n)
@[simp] theorem notifyAll_nextCommand (s : State) (ns : List Notice) : (notifyAll ns s).nextCommand = s.nextCommand := by
  induction ns generalizing s with
  | nil => rfl
  | cons n ns ih => exact (ih (notify n s)).trans (notify_nextCommand s n)
@[simp] theorem notifyAll_broadcasts (s : State) (ns : List Notice) : (notifyAll ns s).broadcasts = s.broadcasts := by
  induction ns generalizing s with
  | nil => rfl
  | cons n ns ih => exact (ih (notify n s)).trans (notify_broadcasts s n)
@[simp] theorem notifyAll_nextBroadcast (s : State) (ns : List Notice) : (notifyAll ns s).nextBroadcast = s.nextBroadcast := by
  induction ns generalizing s with
  | nil => rfl
  | cons n ns ih => exact (ih (notify n s)).trans (notify_nextBroadcast s n)
@[simp] theorem notifyAll_queues (s : State) (ns : List Notice) : (notifyAll ns s).queues = s.queues := by
  induction ns generalizing s with
  | nil => rfl
  | cons n ns ih => exact (ih (notify n s)).trans (notify_queues s n)
@[simp] theorem notifyAll_ports (s : State) (ns : List Notice) : (notifyAll ns s).ports = s.ports := by
  induction ns generalizing s with
  | nil => rfl
  | cons n ns ih => exact (ih (notify n s)).trans (notify_ports s n)
@[simp] theorem notifyAll_quiet (s : State) (ns : List Notice) : (notifyAll ns s).quiet = s.quiet := by
  induction ns generalizing s with
  | nil => rfl
  | cons n ns ih => exact (ih (notify n s)).trans (notify_quiet s n)
@[simp] theorem notifyAll_counters (s : State) (ns : List Notice) : (notifyAll ns s).counters = s.counters := by
  induction ns generalizing s with
  | nil => rfl
  | cons n ns ih => exact (ih (notify n s)).trans (notify_counters s n)
@[simp] theorem notifyAll_freeIndex (s : State) (ns : List Notice) : (notifyAll ns s).freeIndex = s.freeIndex := by
  induction ns generalizing s with
  | nil => rfl
  | cons n ns ih => exact (ih (notify n s)).trans (notify_freeIndex s n)

/-! ### setEntry -/

@[simp] theorem setEntry_pending (s : State) (i : Index) (e : Entry) : (s.setEntry i e).pending = s.pending := rfl
@[simp] theorem setEntry_arrivals (s : State) (i : Index) (e : Entry) : (s.setEntry i e).arrivals = s.arrivals := rfl
@[simp] theorem setEntry_inReset (s : State) (i : Index) (e : Entry) : (s.setEntry i e).inReset = s.inReset := rfl
@[simp] theorem setEntry_control (s : State) (i : Index) (e : Entry) : (s.setEntry i e).control = s.control := rfl
@[simp] theorem setEntry_image (s : State) (i : Index) (e : Entry) : (s.setEntry i e).image = s.image := rfl
@[simp] theorem setEntry_live (s : State) (i : Index) (e : Entry) : (s.setEntry i e).live = s.live := rfl
@[simp] theorem setEntry_unapplied (s : State) (i : Index) (e : Entry) : (s.setEntry i e).unapplied = s.unapplied := rfl
@[simp] theorem setEntry_store (s : State) (i : Index) (e : Entry) : (s.setEntry i e).store = s.store := rfl
@[simp] theorem setEntry_engine (s : State) (i : Index) (e : Entry) : (s.setEntry i e).engine = s.engine := rfl
@[simp] theorem setEntry_order (s : State) (i : Index) (e : Entry) : (s.setEntry i e).order = s.order := rfl
@[simp] theorem setEntry_answers (s : State) (i : Index) (e : Entry) : (s.setEntry i e).answers = s.answers := rfl
@[simp] theorem setEntry_bars (s : State) (i : Index) (e : Entry) : (s.setEntry i e).bars = s.bars := rfl
@[simp] theorem setEntry_grace (s : State) (i : Index) (e : Entry) : (s.setEntry i e).grace = s.grace := rfl
@[simp] theorem setEntry_nextCommand (s : State) (i : Index) (e : Entry) : (s.setEntry i e).nextCommand = s.nextCommand := rfl
@[simp] theorem setEntry_broadcasts (s : State) (i : Index) (e : Entry) : (s.setEntry i e).broadcasts = s.broadcasts := rfl
@[simp] theorem setEntry_nextBroadcast (s : State) (i : Index) (e : Entry) : (s.setEntry i e).nextBroadcast = s.nextBroadcast := rfl
@[simp] theorem setEntry_queues (s : State) (i : Index) (e : Entry) : (s.setEntry i e).queues = s.queues := rfl
@[simp] theorem setEntry_ports (s : State) (i : Index) (e : Entry) : (s.setEntry i e).ports = s.ports := rfl
@[simp] theorem setEntry_quiet (s : State) (i : Index) (e : Entry) : (s.setEntry i e).quiet = s.quiet := rfl
@[simp] theorem setEntry_counters (s : State) (i : Index) (e : Entry) : (s.setEntry i e).counters = s.counters := rfl
@[simp] theorem setEntry_freeIndex (s : State) (i : Index) (e : Entry) : (s.setEntry i e).freeIndex = s.freeIndex := rfl

/-! ### updateEntry -/

@[simp] theorem updateEntry_pending (s : State) (i : Index) (f : Entry → Entry) : (s.updateEntry i f).pending = s.pending := rfl
@[simp] theorem updateEntry_arrivals (s : State) (i : Index) (f : Entry → Entry) : (s.updateEntry i f).arrivals = s.arrivals := rfl
@[simp] theorem updateEntry_inReset (s : State) (i : Index) (f : Entry → Entry) : (s.updateEntry i f).inReset = s.inReset := rfl
@[simp] theorem updateEntry_control (s : State) (i : Index) (f : Entry → Entry) : (s.updateEntry i f).control = s.control := rfl
@[simp] theorem updateEntry_image (s : State) (i : Index) (f : Entry → Entry) : (s.updateEntry i f).image = s.image := rfl
@[simp] theorem updateEntry_live (s : State) (i : Index) (f : Entry → Entry) : (s.updateEntry i f).live = s.live := rfl
@[simp] theorem updateEntry_unapplied (s : State) (i : Index) (f : Entry → Entry) : (s.updateEntry i f).unapplied = s.unapplied := rfl
@[simp] theorem updateEntry_store (s : State) (i : Index) (f : Entry → Entry) : (s.updateEntry i f).store = s.store := rfl
@[simp] theorem updateEntry_engine (s : State) (i : Index) (f : Entry → Entry) : (s.updateEntry i f).engine = s.engine := rfl
@[simp] theorem updateEntry_order (s : State) (i : Index) (f : Entry → Entry) : (s.updateEntry i f).order = s.order := rfl
@[simp] theorem updateEntry_answers (s : State) (i : Index) (f : Entry → Entry) : (s.updateEntry i f).answers = s.answers := rfl
@[simp] theorem updateEntry_bars (s : State) (i : Index) (f : Entry → Entry) : (s.updateEntry i f).bars = s.bars := rfl
@[simp] theorem updateEntry_grace (s : State) (i : Index) (f : Entry → Entry) : (s.updateEntry i f).grace = s.grace := rfl
@[simp] theorem updateEntry_nextCommand (s : State) (i : Index) (f : Entry → Entry) : (s.updateEntry i f).nextCommand = s.nextCommand := rfl
@[simp] theorem updateEntry_broadcasts (s : State) (i : Index) (f : Entry → Entry) : (s.updateEntry i f).broadcasts = s.broadcasts := rfl
@[simp] theorem updateEntry_nextBroadcast (s : State) (i : Index) (f : Entry → Entry) : (s.updateEntry i f).nextBroadcast = s.nextBroadcast := rfl
@[simp] theorem updateEntry_queues (s : State) (i : Index) (f : Entry → Entry) : (s.updateEntry i f).queues = s.queues := rfl
@[simp] theorem updateEntry_ports (s : State) (i : Index) (f : Entry → Entry) : (s.updateEntry i f).ports = s.ports := rfl
@[simp] theorem updateEntry_quiet (s : State) (i : Index) (f : Entry → Entry) : (s.updateEntry i f).quiet = s.quiet := rfl
@[simp] theorem updateEntry_counters (s : State) (i : Index) (f : Entry → Entry) : (s.updateEntry i f).counters = s.counters := rfl
@[simp] theorem updateEntry_freeIndex (s : State) (i : Index) (f : Entry → Entry) : (s.updateEntry i f).freeIndex = s.freeIndex := rfl

/-! ### mapEntries -/

@[simp] theorem mapEntries_pending (s : State) (f : Entry → Entry) : (s.mapEntries f).pending = s.pending := rfl
@[simp] theorem mapEntries_arrivals (s : State) (f : Entry → Entry) : (s.mapEntries f).arrivals = s.arrivals := rfl
@[simp] theorem mapEntries_inReset (s : State) (f : Entry → Entry) : (s.mapEntries f).inReset = s.inReset := rfl
@[simp] theorem mapEntries_control (s : State) (f : Entry → Entry) : (s.mapEntries f).control = s.control := rfl
@[simp] theorem mapEntries_image (s : State) (f : Entry → Entry) : (s.mapEntries f).image = s.image := rfl
@[simp] theorem mapEntries_live (s : State) (f : Entry → Entry) : (s.mapEntries f).live = s.live := rfl
@[simp] theorem mapEntries_unapplied (s : State) (f : Entry → Entry) : (s.mapEntries f).unapplied = s.unapplied := rfl
@[simp] theorem mapEntries_store (s : State) (f : Entry → Entry) : (s.mapEntries f).store = s.store := rfl
@[simp] theorem mapEntries_engine (s : State) (f : Entry → Entry) : (s.mapEntries f).engine = s.engine := rfl
@[simp] theorem mapEntries_order (s : State) (f : Entry → Entry) : (s.mapEntries f).order = s.order := rfl
@[simp] theorem mapEntries_answers (s : State) (f : Entry → Entry) : (s.mapEntries f).answers = s.answers := rfl
@[simp] theorem mapEntries_bars (s : State) (f : Entry → Entry) : (s.mapEntries f).bars = s.bars := rfl
@[simp] theorem mapEntries_grace (s : State) (f : Entry → Entry) : (s.mapEntries f).grace = s.grace := rfl
@[simp] theorem mapEntries_nextCommand (s : State) (f : Entry → Entry) : (s.mapEntries f).nextCommand = s.nextCommand := rfl
@[simp] theorem mapEntries_broadcasts (s : State) (f : Entry → Entry) : (s.mapEntries f).broadcasts = s.broadcasts := rfl
@[simp] theorem mapEntries_nextBroadcast (s : State) (f : Entry → Entry) : (s.mapEntries f).nextBroadcast = s.nextBroadcast := rfl
@[simp] theorem mapEntries_queues (s : State) (f : Entry → Entry) : (s.mapEntries f).queues = s.queues := rfl
@[simp] theorem mapEntries_ports (s : State) (f : Entry → Entry) : (s.mapEntries f).ports = s.ports := rfl
@[simp] theorem mapEntries_quiet (s : State) (f : Entry → Entry) : (s.mapEntries f).quiet = s.quiet := rfl
@[simp] theorem mapEntries_counters (s : State) (f : Entry → Entry) : (s.mapEntries f).counters = s.counters := rfl
@[simp] theorem mapEntries_freeIndex (s : State) (f : Entry → Entry) : (s.mapEntries f).freeIndex = s.freeIndex := rfl

/-! ### slotIn -/

@[simp] theorem slotIn_pending (s : State) (i : Index) (e : Entry) : (s.slotIn i e).pending = s.pending := rfl
@[simp] theorem slotIn_arrivals (s : State) (i : Index) (e : Entry) : (s.slotIn i e).arrivals = s.arrivals := rfl
@[simp] theorem slotIn_inReset (s : State) (i : Index) (e : Entry) : (s.slotIn i e).inReset = s.inReset := rfl
@[simp] theorem slotIn_control (s : State) (i : Index) (e : Entry) : (s.slotIn i e).control = s.control := rfl
@[simp] theorem slotIn_image (s : State) (i : Index) (e : Entry) : (s.slotIn i e).image = s.image := rfl
@[simp] theorem slotIn_live (s : State) (i : Index) (e : Entry) : (s.slotIn i e).live = s.live := rfl
@[simp] theorem slotIn_unapplied (s : State) (i : Index) (e : Entry) : (s.slotIn i e).unapplied = s.unapplied := rfl
@[simp] theorem slotIn_store (s : State) (i : Index) (e : Entry) : (s.slotIn i e).store = s.store := rfl
@[simp] theorem slotIn_engine (s : State) (i : Index) (e : Entry) : (s.slotIn i e).engine = s.engine := rfl
@[simp] theorem slotIn_answers (s : State) (i : Index) (e : Entry) : (s.slotIn i e).answers = s.answers := rfl
@[simp] theorem slotIn_bars (s : State) (i : Index) (e : Entry) : (s.slotIn i e).bars = s.bars := rfl
@[simp] theorem slotIn_grace (s : State) (i : Index) (e : Entry) : (s.slotIn i e).grace = s.grace := rfl
@[simp] theorem slotIn_nextCommand (s : State) (i : Index) (e : Entry) : (s.slotIn i e).nextCommand = s.nextCommand := rfl
@[simp] theorem slotIn_broadcasts (s : State) (i : Index) (e : Entry) : (s.slotIn i e).broadcasts = s.broadcasts := rfl
@[simp] theorem slotIn_nextBroadcast (s : State) (i : Index) (e : Entry) : (s.slotIn i e).nextBroadcast = s.nextBroadcast := rfl
@[simp] theorem slotIn_queues (s : State) (i : Index) (e : Entry) : (s.slotIn i e).queues = s.queues := rfl
@[simp] theorem slotIn_ports (s : State) (i : Index) (e : Entry) : (s.slotIn i e).ports = s.ports := rfl
@[simp] theorem slotIn_quiet (s : State) (i : Index) (e : Entry) : (s.slotIn i e).quiet = s.quiet := rfl
@[simp] theorem slotIn_counters (s : State) (i : Index) (e : Entry) : (s.slotIn i e).counters = s.counters := rfl
@[simp] theorem slotIn_freeIndex (s : State) (i : Index) (e : Entry) : (s.slotIn i e).freeIndex = s.freeIndex := rfl

/-! ### addAnswer -/

@[simp] theorem addAnswer_pending (s : State) (a : Answer) : (addAnswer a s).pending = s.pending := by
  unfold addAnswer; split <;> rfl
@[simp] theorem addAnswer_arrivals (s : State) (a : Answer) : (addAnswer a s).arrivals = s.arrivals := by
  unfold addAnswer; split <;> rfl
@[simp] theorem addAnswer_inReset (s : State) (a : Answer) : (addAnswer a s).inReset = s.inReset := by
  unfold addAnswer; split <;> rfl
@[simp] theorem addAnswer_control (s : State) (a : Answer) : (addAnswer a s).control = s.control := by
  unfold addAnswer; split <;> rfl
@[simp] theorem addAnswer_image (s : State) (a : Answer) : (addAnswer a s).image = s.image := by
  unfold addAnswer; split <;> rfl
@[simp] theorem addAnswer_live (s : State) (a : Answer) : (addAnswer a s).live = s.live := by
  unfold addAnswer; split <;> rfl
@[simp] theorem addAnswer_unapplied (s : State) (a : Answer) : (addAnswer a s).unapplied = s.unapplied := by
  unfold addAnswer; split <;> rfl
@[simp] theorem addAnswer_store (s : State) (a : Answer) : (addAnswer a s).store = s.store := by
  unfold addAnswer; split <;> rfl
@[simp] theorem addAnswer_engine (s : State) (a : Answer) : (addAnswer a s).engine = s.engine := by
  unfold addAnswer; split <;> rfl
@[simp] theorem addAnswer_roster (s : State) (a : Answer) : (addAnswer a s).roster = s.roster := by
  unfold addAnswer; split <;> rfl
@[simp] theorem addAnswer_order (s : State) (a : Answer) : (addAnswer a s).order = s.order := by
  unfold addAnswer; split <;> rfl
@[simp] theorem addAnswer_bars (s : State) (a : Answer) : (addAnswer a s).bars = s.bars := by
  unfold addAnswer; split <;> rfl
@[simp] theorem addAnswer_grace (s : State) (a : Answer) : (addAnswer a s).grace = s.grace := by
  unfold addAnswer; split <;> rfl
@[simp] theorem addAnswer_nextCommand (s : State) (a : Answer) : (addAnswer a s).nextCommand = s.nextCommand := by
  unfold addAnswer; split <;> rfl
@[simp] theorem addAnswer_broadcasts (s : State) (a : Answer) : (addAnswer a s).broadcasts = s.broadcasts := by
  unfold addAnswer; split <;> rfl
@[simp] theorem addAnswer_nextBroadcast (s : State) (a : Answer) : (addAnswer a s).nextBroadcast = s.nextBroadcast := by
  unfold addAnswer; split <;> rfl
@[simp] theorem addAnswer_queues (s : State) (a : Answer) : (addAnswer a s).queues = s.queues := by
  unfold addAnswer; split <;> rfl
@[simp] theorem addAnswer_ports (s : State) (a : Answer) : (addAnswer a s).ports = s.ports := by
  unfold addAnswer; split <;> rfl
@[simp] theorem addAnswer_quiet (s : State) (a : Answer) : (addAnswer a s).quiet = s.quiet := by
  unfold addAnswer; split <;> rfl
@[simp] theorem addAnswer_counters (s : State) (a : Answer) : (addAnswer a s).counters = s.counters := by
  unfold addAnswer; split <;> rfl
@[simp] theorem addAnswer_freeIndex (s : State) (a : Answer) : (addAnswer a s).freeIndex = s.freeIndex := by
  unfold addAnswer; split <;> rfl

/-! ### addBar -/

@[simp] theorem addBar_pending (s : State) (c : CarNumber) (r : Nat) : (addBar c r s).pending = s.pending := by
  unfold addBar; (repeat (first | rfl | split))
@[simp] theorem addBar_arrivals (s : State) (c : CarNumber) (r : Nat) : (addBar c r s).arrivals = s.arrivals := by
  unfold addBar; (repeat (first | rfl | split))
@[simp] theorem addBar_inReset (s : State) (c : CarNumber) (r : Nat) : (addBar c r s).inReset = s.inReset := by
  unfold addBar; (repeat (first | rfl | split))
@[simp] theorem addBar_control (s : State) (c : CarNumber) (r : Nat) : (addBar c r s).control = s.control := by
  unfold addBar; (repeat (first | rfl | split))
@[simp] theorem addBar_image (s : State) (c : CarNumber) (r : Nat) : (addBar c r s).image = s.image := by
  unfold addBar; (repeat (first | rfl | split))
@[simp] theorem addBar_live (s : State) (c : CarNumber) (r : Nat) : (addBar c r s).live = s.live := by
  unfold addBar; (repeat (first | rfl | split))
@[simp] theorem addBar_unapplied (s : State) (c : CarNumber) (r : Nat) : (addBar c r s).unapplied = s.unapplied := by
  unfold addBar; (repeat (first | rfl | split))
@[simp] theorem addBar_store (s : State) (c : CarNumber) (r : Nat) : (addBar c r s).store = s.store := by
  unfold addBar; (repeat (first | rfl | split))
@[simp] theorem addBar_engine (s : State) (c : CarNumber) (r : Nat) : (addBar c r s).engine = s.engine := by
  unfold addBar; (repeat (first | rfl | split))
@[simp] theorem addBar_roster (s : State) (c : CarNumber) (r : Nat) : (addBar c r s).roster = s.roster := by
  unfold addBar; (repeat (first | rfl | split))
@[simp] theorem addBar_order (s : State) (c : CarNumber) (r : Nat) : (addBar c r s).order = s.order := by
  unfold addBar; (repeat (first | rfl | split))
@[simp] theorem addBar_answers (s : State) (c : CarNumber) (r : Nat) : (addBar c r s).answers = s.answers := by
  unfold addBar; (repeat (first | rfl | split))
@[simp] theorem addBar_grace (s : State) (c : CarNumber) (r : Nat) : (addBar c r s).grace = s.grace := by
  unfold addBar; (repeat (first | rfl | split))
@[simp] theorem addBar_nextCommand (s : State) (c : CarNumber) (r : Nat) : (addBar c r s).nextCommand = s.nextCommand := by
  unfold addBar; (repeat (first | rfl | split))
@[simp] theorem addBar_broadcasts (s : State) (c : CarNumber) (r : Nat) : (addBar c r s).broadcasts = s.broadcasts := by
  unfold addBar; (repeat (first | rfl | split))
@[simp] theorem addBar_nextBroadcast (s : State) (c : CarNumber) (r : Nat) : (addBar c r s).nextBroadcast = s.nextBroadcast := by
  unfold addBar; (repeat (first | rfl | split))
@[simp] theorem addBar_queues (s : State) (c : CarNumber) (r : Nat) : (addBar c r s).queues = s.queues := by
  unfold addBar; (repeat (first | rfl | split))
@[simp] theorem addBar_ports (s : State) (c : CarNumber) (r : Nat) : (addBar c r s).ports = s.ports := by
  unfold addBar; (repeat (first | rfl | split))
@[simp] theorem addBar_quiet (s : State) (c : CarNumber) (r : Nat) : (addBar c r s).quiet = s.quiet := by
  unfold addBar; (repeat (first | rfl | split))
@[simp] theorem addBar_counters (s : State) (c : CarNumber) (r : Nat) : (addBar c r s).counters = s.counters := by
  unfold addBar; (repeat (first | rfl | split))
@[simp] theorem addBar_freeIndex (s : State) (c : CarNumber) (r : Nat) : (addBar c r s).freeIndex = s.freeIndex := by
  unfold addBar; (repeat (first | rfl | split))

/-! ### clearEntry -/

@[simp] theorem clearEntry_pending (s : State) (i : Index) : (clearEntry i s).pending = s.pending := rfl
@[simp] theorem clearEntry_arrivals (s : State) (i : Index) : (clearEntry i s).arrivals = s.arrivals := rfl
@[simp] theorem clearEntry_inReset (s : State) (i : Index) : (clearEntry i s).inReset = s.inReset := rfl
@[simp] theorem clearEntry_control (s : State) (i : Index) : (clearEntry i s).control = s.control := rfl
@[simp] theorem clearEntry_image (s : State) (i : Index) : (clearEntry i s).image = s.image := rfl
@[simp] theorem clearEntry_live (s : State) (i : Index) : (clearEntry i s).live = s.live := rfl
@[simp] theorem clearEntry_unapplied (s : State) (i : Index) : (clearEntry i s).unapplied = s.unapplied := rfl
@[simp] theorem clearEntry_store (s : State) (i : Index) : (clearEntry i s).store = s.store := rfl
@[simp] theorem clearEntry_bars (s : State) (i : Index) : (clearEntry i s).bars = s.bars := rfl
@[simp] theorem clearEntry_grace (s : State) (i : Index) : (clearEntry i s).grace = s.grace := rfl
@[simp] theorem clearEntry_nextCommand (s : State) (i : Index) : (clearEntry i s).nextCommand = s.nextCommand := rfl
@[simp] theorem clearEntry_broadcasts (s : State) (i : Index) : (clearEntry i s).broadcasts = s.broadcasts := rfl
@[simp] theorem clearEntry_nextBroadcast (s : State) (i : Index) : (clearEntry i s).nextBroadcast = s.nextBroadcast := rfl
@[simp] theorem clearEntry_queues (s : State) (i : Index) : (clearEntry i s).queues = s.queues := rfl
@[simp] theorem clearEntry_ports (s : State) (i : Index) : (clearEntry i s).ports = s.ports := rfl
@[simp] theorem clearEntry_quiet (s : State) (i : Index) : (clearEntry i s).quiet = s.quiet := rfl
@[simp] theorem clearEntry_counters (s : State) (i : Index) : (clearEntry i s).counters = s.counters := rfl
@[simp] theorem clearEntry_freeIndex (s : State) (i : Index) : (clearEntry i s).freeIndex = s.freeIndex := rfl

/-! ### freeEntry -/

@[simp] theorem freeEntry_pending (s : State) (i : Index) (n : Option Notice) (r : UndeliveredReason) : (freeEntry i n r s).pending = s.pending := by
  simp [freeEntry]
@[simp] theorem freeEntry_arrivals (s : State) (i : Index) (n : Option Notice) (r : UndeliveredReason) : (freeEntry i n r s).arrivals = s.arrivals := by
  simp [freeEntry]
@[simp] theorem freeEntry_inReset (s : State) (i : Index) (n : Option Notice) (r : UndeliveredReason) : (freeEntry i n r s).inReset = s.inReset := by
  simp [freeEntry]
@[simp] theorem freeEntry_image (s : State) (i : Index) (n : Option Notice) (r : UndeliveredReason) : (freeEntry i n r s).image = s.image := by
  simp [freeEntry]
@[simp] theorem freeEntry_live (s : State) (i : Index) (n : Option Notice) (r : UndeliveredReason) : (freeEntry i n r s).live = s.live := by
  simp [freeEntry]
@[simp] theorem freeEntry_unapplied (s : State) (i : Index) (n : Option Notice) (r : UndeliveredReason) : (freeEntry i n r s).unapplied = s.unapplied := by
  simp [freeEntry]
@[simp] theorem freeEntry_store (s : State) (i : Index) (n : Option Notice) (r : UndeliveredReason) : (freeEntry i n r s).store = s.store := by
  simp [freeEntry]
@[simp] theorem freeEntry_bars (s : State) (i : Index) (n : Option Notice) (r : UndeliveredReason) : (freeEntry i n r s).bars = s.bars := by
  simp [freeEntry]
@[simp] theorem freeEntry_grace (s : State) (i : Index) (n : Option Notice) (r : UndeliveredReason) : (freeEntry i n r s).grace = s.grace := by
  simp [freeEntry]
@[simp] theorem freeEntry_nextCommand (s : State) (i : Index) (n : Option Notice) (r : UndeliveredReason) : (freeEntry i n r s).nextCommand = s.nextCommand := by
  simp [freeEntry]
@[simp] theorem freeEntry_broadcasts (s : State) (i : Index) (n : Option Notice) (r : UndeliveredReason) : (freeEntry i n r s).broadcasts = s.broadcasts := by
  simp [freeEntry]
@[simp] theorem freeEntry_nextBroadcast (s : State) (i : Index) (n : Option Notice) (r : UndeliveredReason) : (freeEntry i n r s).nextBroadcast = s.nextBroadcast := by
  simp [freeEntry]
@[simp] theorem freeEntry_queues (s : State) (i : Index) (n : Option Notice) (r : UndeliveredReason) : (freeEntry i n r s).queues = s.queues := by
  simp [freeEntry]
@[simp] theorem freeEntry_ports (s : State) (i : Index) (n : Option Notice) (r : UndeliveredReason) : (freeEntry i n r s).ports = s.ports := by
  simp [freeEntry]
@[simp] theorem freeEntry_quiet (s : State) (i : Index) (n : Option Notice) (r : UndeliveredReason) : (freeEntry i n r s).quiet = s.quiet := by
  simp [freeEntry]
@[simp] theorem freeEntry_counters (s : State) (i : Index) (n : Option Notice) (r : UndeliveredReason) : (freeEntry i n r s).counters = s.counters := by
  simp [freeEntry]
@[simp] theorem freeEntry_freeIndex (s : State) (i : Index) (n : Option Notice) (r : UndeliveredReason) : (freeEntry i n r s).freeIndex = s.freeIndex := by
  simp [freeEntry]

/-! ### setPort -/

@[simp] theorem setPort_pending (s : State) (p : PortId) (x : Port) : (s.setPort p x).pending = s.pending := by
  cases p <;> rfl
@[simp] theorem setPort_arrivals (s : State) (p : PortId) (x : Port) : (s.setPort p x).arrivals = s.arrivals := by
  cases p <;> rfl
@[simp] theorem setPort_inReset (s : State) (p : PortId) (x : Port) : (s.setPort p x).inReset = s.inReset := by
  cases p <;> rfl
@[simp] theorem setPort_control (s : State) (p : PortId) (x : Port) : (s.setPort p x).control = s.control := by
  cases p <;> rfl
@[simp] theorem setPort_image (s : State) (p : PortId) (x : Port) : (s.setPort p x).image = s.image := by
  cases p <;> rfl
@[simp] theorem setPort_live (s : State) (p : PortId) (x : Port) : (s.setPort p x).live = s.live := by
  cases p <;> rfl
@[simp] theorem setPort_unapplied (s : State) (p : PortId) (x : Port) : (s.setPort p x).unapplied = s.unapplied := by
  cases p <;> rfl
@[simp] theorem setPort_store (s : State) (p : PortId) (x : Port) : (s.setPort p x).store = s.store := by
  cases p <;> rfl
@[simp] theorem setPort_engine (s : State) (p : PortId) (x : Port) : (s.setPort p x).engine = s.engine := by
  cases p <;> rfl
@[simp] theorem setPort_roster (s : State) (p : PortId) (x : Port) : (s.setPort p x).roster = s.roster := by
  cases p <;> rfl
@[simp] theorem setPort_order (s : State) (p : PortId) (x : Port) : (s.setPort p x).order = s.order := by
  cases p <;> rfl
@[simp] theorem setPort_answers (s : State) (p : PortId) (x : Port) : (s.setPort p x).answers = s.answers := by
  cases p <;> rfl
@[simp] theorem setPort_bars (s : State) (p : PortId) (x : Port) : (s.setPort p x).bars = s.bars := by
  cases p <;> rfl
@[simp] theorem setPort_grace (s : State) (p : PortId) (x : Port) : (s.setPort p x).grace = s.grace := by
  cases p <;> rfl
@[simp] theorem setPort_nextCommand (s : State) (p : PortId) (x : Port) : (s.setPort p x).nextCommand = s.nextCommand := by
  cases p <;> rfl
@[simp] theorem setPort_broadcasts (s : State) (p : PortId) (x : Port) : (s.setPort p x).broadcasts = s.broadcasts := by
  cases p <;> rfl
@[simp] theorem setPort_nextBroadcast (s : State) (p : PortId) (x : Port) : (s.setPort p x).nextBroadcast = s.nextBroadcast := by
  cases p <;> rfl
@[simp] theorem setPort_queues (s : State) (p : PortId) (x : Port) : (s.setPort p x).queues = s.queues := by
  cases p <;> rfl
@[simp] theorem setPort_quiet (s : State) (p : PortId) (x : Port) : (s.setPort p x).quiet = s.quiet := by
  cases p <;> rfl
@[simp] theorem setPort_counters (s : State) (p : PortId) (x : Port) : (s.setPort p x).counters = s.counters := by
  cases p <;> rfl
@[simp] theorem setPort_freeIndex (s : State) (p : PortId) (x : Port) : (s.setPort p x).freeIndex = s.freeIndex := by
  cases p <;> rfl

/-! ### updatePort -/

@[simp] theorem updatePort_pending (s : State) (p : PortId) (f : Port → Port) : (s.updatePort p f).pending = s.pending := by
  simp [State.updatePort]
@[simp] theorem updatePort_arrivals (s : State) (p : PortId) (f : Port → Port) : (s.updatePort p f).arrivals = s.arrivals := by
  simp [State.updatePort]
@[simp] theorem updatePort_inReset (s : State) (p : PortId) (f : Port → Port) : (s.updatePort p f).inReset = s.inReset := by
  simp [State.updatePort]
@[simp] theorem updatePort_control (s : State) (p : PortId) (f : Port → Port) : (s.updatePort p f).control = s.control := by
  simp [State.updatePort]
@[simp] theorem updatePort_image (s : State) (p : PortId) (f : Port → Port) : (s.updatePort p f).image = s.image := by
  simp [State.updatePort]
@[simp] theorem updatePort_live (s : State) (p : PortId) (f : Port → Port) : (s.updatePort p f).live = s.live := by
  simp [State.updatePort]
@[simp] theorem updatePort_unapplied (s : State) (p : PortId) (f : Port → Port) : (s.updatePort p f).unapplied = s.unapplied := by
  simp [State.updatePort]
@[simp] theorem updatePort_store (s : State) (p : PortId) (f : Port → Port) : (s.updatePort p f).store = s.store := by
  simp [State.updatePort]
@[simp] theorem updatePort_engine (s : State) (p : PortId) (f : Port → Port) : (s.updatePort p f).engine = s.engine := by
  simp [State.updatePort]
@[simp] theorem updatePort_roster (s : State) (p : PortId) (f : Port → Port) : (s.updatePort p f).roster = s.roster := by
  simp [State.updatePort]
@[simp] theorem updatePort_order (s : State) (p : PortId) (f : Port → Port) : (s.updatePort p f).order = s.order := by
  simp [State.updatePort]
@[simp] theorem updatePort_answers (s : State) (p : PortId) (f : Port → Port) : (s.updatePort p f).answers = s.answers := by
  simp [State.updatePort]
@[simp] theorem updatePort_bars (s : State) (p : PortId) (f : Port → Port) : (s.updatePort p f).bars = s.bars := by
  simp [State.updatePort]
@[simp] theorem updatePort_grace (s : State) (p : PortId) (f : Port → Port) : (s.updatePort p f).grace = s.grace := by
  simp [State.updatePort]
@[simp] theorem updatePort_nextCommand (s : State) (p : PortId) (f : Port → Port) : (s.updatePort p f).nextCommand = s.nextCommand := by
  simp [State.updatePort]
@[simp] theorem updatePort_broadcasts (s : State) (p : PortId) (f : Port → Port) : (s.updatePort p f).broadcasts = s.broadcasts := by
  simp [State.updatePort]
@[simp] theorem updatePort_nextBroadcast (s : State) (p : PortId) (f : Port → Port) : (s.updatePort p f).nextBroadcast = s.nextBroadcast := by
  simp [State.updatePort]
@[simp] theorem updatePort_queues (s : State) (p : PortId) (f : Port → Port) : (s.updatePort p f).queues = s.queues := by
  simp [State.updatePort]
@[simp] theorem updatePort_quiet (s : State) (p : PortId) (f : Port → Port) : (s.updatePort p f).quiet = s.quiet := by
  simp [State.updatePort]
@[simp] theorem updatePort_counters (s : State) (p : PortId) (f : Port → Port) : (s.updatePort p f).counters = s.counters := by
  simp [State.updatePort]
@[simp] theorem updatePort_freeIndex (s : State) (p : PortId) (f : Port → Port) : (s.updatePort p f).freeIndex = s.freeIndex := by
  simp [State.updatePort]

/-! ### sendHandover -/

@[simp] theorem sendHandover_pending (s : State) (p : PortId) (d : Byte) (b : ChainBody) : (sendHandover p d b s).pending = s.pending := by
  simp [sendHandover]
@[simp] theorem sendHandover_arrivals (s : State) (p : PortId) (d : Byte) (b : ChainBody) : (sendHandover p d b s).arrivals = s.arrivals := by
  simp [sendHandover]
@[simp] theorem sendHandover_inReset (s : State) (p : PortId) (d : Byte) (b : ChainBody) : (sendHandover p d b s).inReset = s.inReset := by
  simp [sendHandover]
@[simp] theorem sendHandover_control (s : State) (p : PortId) (d : Byte) (b : ChainBody) : (sendHandover p d b s).control = s.control := by
  simp [sendHandover]
@[simp] theorem sendHandover_image (s : State) (p : PortId) (d : Byte) (b : ChainBody) : (sendHandover p d b s).image = s.image := by
  simp [sendHandover]
@[simp] theorem sendHandover_live (s : State) (p : PortId) (d : Byte) (b : ChainBody) : (sendHandover p d b s).live = s.live := by
  simp [sendHandover]
@[simp] theorem sendHandover_unapplied (s : State) (p : PortId) (d : Byte) (b : ChainBody) : (sendHandover p d b s).unapplied = s.unapplied := by
  simp [sendHandover]
@[simp] theorem sendHandover_store (s : State) (p : PortId) (d : Byte) (b : ChainBody) : (sendHandover p d b s).store = s.store := by
  simp [sendHandover]
@[simp] theorem sendHandover_engine (s : State) (p : PortId) (d : Byte) (b : ChainBody) : (sendHandover p d b s).engine = s.engine := by
  simp [sendHandover]
@[simp] theorem sendHandover_roster (s : State) (p : PortId) (d : Byte) (b : ChainBody) : (sendHandover p d b s).roster = s.roster := by
  simp [sendHandover]
@[simp] theorem sendHandover_order (s : State) (p : PortId) (d : Byte) (b : ChainBody) : (sendHandover p d b s).order = s.order := by
  simp [sendHandover]
@[simp] theorem sendHandover_answers (s : State) (p : PortId) (d : Byte) (b : ChainBody) : (sendHandover p d b s).answers = s.answers := by
  simp [sendHandover]
@[simp] theorem sendHandover_bars (s : State) (p : PortId) (d : Byte) (b : ChainBody) : (sendHandover p d b s).bars = s.bars := by
  simp [sendHandover]
@[simp] theorem sendHandover_grace (s : State) (p : PortId) (d : Byte) (b : ChainBody) : (sendHandover p d b s).grace = s.grace := by
  simp [sendHandover]
@[simp] theorem sendHandover_nextCommand (s : State) (p : PortId) (d : Byte) (b : ChainBody) : (sendHandover p d b s).nextCommand = s.nextCommand := by
  simp [sendHandover]
@[simp] theorem sendHandover_broadcasts (s : State) (p : PortId) (d : Byte) (b : ChainBody) : (sendHandover p d b s).broadcasts = s.broadcasts := by
  simp [sendHandover]
@[simp] theorem sendHandover_nextBroadcast (s : State) (p : PortId) (d : Byte) (b : ChainBody) : (sendHandover p d b s).nextBroadcast = s.nextBroadcast := by
  simp [sendHandover]
@[simp] theorem sendHandover_queues (s : State) (p : PortId) (d : Byte) (b : ChainBody) : (sendHandover p d b s).queues = s.queues := by
  simp [sendHandover]
@[simp] theorem sendHandover_quiet (s : State) (p : PortId) (d : Byte) (b : ChainBody) : (sendHandover p d b s).quiet = s.quiet := by
  simp [sendHandover]
@[simp] theorem sendHandover_counters (s : State) (p : PortId) (d : Byte) (b : ChainBody) : (sendHandover p d b s).counters = s.counters := by
  simp [sendHandover]
@[simp] theorem sendHandover_freeIndex (s : State) (p : PortId) (d : Byte) (b : ChainBody) : (sendHandover p d b s).freeIndex = s.freeIndex := by
  simp [sendHandover]

/-! ### sendToPeer -/

@[simp] theorem sendToPeer_pending (s : State) (n : Option Byte) (b : ChainBody) : (sendToPeer n b s).pending = s.pending := by
  unfold sendToPeer; (repeat (first | rfl | split)); simp
@[simp] theorem sendToPeer_arrivals (s : State) (n : Option Byte) (b : ChainBody) : (sendToPeer n b s).arrivals = s.arrivals := by
  unfold sendToPeer; (repeat (first | rfl | split)); simp
@[simp] theorem sendToPeer_inReset (s : State) (n : Option Byte) (b : ChainBody) : (sendToPeer n b s).inReset = s.inReset := by
  unfold sendToPeer; (repeat (first | rfl | split)); simp
@[simp] theorem sendToPeer_control (s : State) (n : Option Byte) (b : ChainBody) : (sendToPeer n b s).control = s.control := by
  unfold sendToPeer; (repeat (first | rfl | split)); simp
@[simp] theorem sendToPeer_image (s : State) (n : Option Byte) (b : ChainBody) : (sendToPeer n b s).image = s.image := by
  unfold sendToPeer; (repeat (first | rfl | split)); simp
@[simp] theorem sendToPeer_live (s : State) (n : Option Byte) (b : ChainBody) : (sendToPeer n b s).live = s.live := by
  unfold sendToPeer; (repeat (first | rfl | split)); simp
@[simp] theorem sendToPeer_unapplied (s : State) (n : Option Byte) (b : ChainBody) : (sendToPeer n b s).unapplied = s.unapplied := by
  unfold sendToPeer; (repeat (first | rfl | split)); simp
@[simp] theorem sendToPeer_store (s : State) (n : Option Byte) (b : ChainBody) : (sendToPeer n b s).store = s.store := by
  unfold sendToPeer; (repeat (first | rfl | split)); simp
@[simp] theorem sendToPeer_engine (s : State) (n : Option Byte) (b : ChainBody) : (sendToPeer n b s).engine = s.engine := by
  unfold sendToPeer; (repeat (first | rfl | split)); simp
@[simp] theorem sendToPeer_roster (s : State) (n : Option Byte) (b : ChainBody) : (sendToPeer n b s).roster = s.roster := by
  unfold sendToPeer; (repeat (first | rfl | split)); simp
@[simp] theorem sendToPeer_order (s : State) (n : Option Byte) (b : ChainBody) : (sendToPeer n b s).order = s.order := by
  unfold sendToPeer; (repeat (first | rfl | split)); simp
@[simp] theorem sendToPeer_answers (s : State) (n : Option Byte) (b : ChainBody) : (sendToPeer n b s).answers = s.answers := by
  unfold sendToPeer; (repeat (first | rfl | split)); simp
@[simp] theorem sendToPeer_bars (s : State) (n : Option Byte) (b : ChainBody) : (sendToPeer n b s).bars = s.bars := by
  unfold sendToPeer; (repeat (first | rfl | split)); simp
@[simp] theorem sendToPeer_grace (s : State) (n : Option Byte) (b : ChainBody) : (sendToPeer n b s).grace = s.grace := by
  unfold sendToPeer; (repeat (first | rfl | split)); simp
@[simp] theorem sendToPeer_nextCommand (s : State) (n : Option Byte) (b : ChainBody) : (sendToPeer n b s).nextCommand = s.nextCommand := by
  unfold sendToPeer; (repeat (first | rfl | split)); simp
@[simp] theorem sendToPeer_broadcasts (s : State) (n : Option Byte) (b : ChainBody) : (sendToPeer n b s).broadcasts = s.broadcasts := by
  unfold sendToPeer; (repeat (first | rfl | split)); simp
@[simp] theorem sendToPeer_nextBroadcast (s : State) (n : Option Byte) (b : ChainBody) : (sendToPeer n b s).nextBroadcast = s.nextBroadcast := by
  unfold sendToPeer; (repeat (first | rfl | split)); simp
@[simp] theorem sendToPeer_queues (s : State) (n : Option Byte) (b : ChainBody) : (sendToPeer n b s).queues = s.queues := by
  unfold sendToPeer; (repeat (first | rfl | split)); simp
@[simp] theorem sendToPeer_quiet (s : State) (n : Option Byte) (b : ChainBody) : (sendToPeer n b s).quiet = s.quiet := by
  unfold sendToPeer; (repeat (first | rfl | split)); simp
@[simp] theorem sendToPeer_counters (s : State) (n : Option Byte) (b : ChainBody) : (sendToPeer n b s).counters = s.counters := by
  unfold sendToPeer; (repeat (first | rfl | split)); simp
@[simp] theorem sendToPeer_freeIndex (s : State) (n : Option Byte) (b : ChainBody) : (sendToPeer n b s).freeIndex = s.freeIndex := by
  unfold sendToPeer; (repeat (first | rfl | split)); simp

/-! ### sendPass -/

@[simp] theorem sendPass_pending (s : State) (p : PortId) (h : Byte) (b : PassBody) : (sendPass p h b s).pending = s.pending := by
  simp [sendPass]
@[simp] theorem sendPass_arrivals (s : State) (p : PortId) (h : Byte) (b : PassBody) : (sendPass p h b s).arrivals = s.arrivals := by
  simp [sendPass]
@[simp] theorem sendPass_inReset (s : State) (p : PortId) (h : Byte) (b : PassBody) : (sendPass p h b s).inReset = s.inReset := by
  simp [sendPass]
@[simp] theorem sendPass_control (s : State) (p : PortId) (h : Byte) (b : PassBody) : (sendPass p h b s).control = s.control := by
  simp [sendPass]
@[simp] theorem sendPass_image (s : State) (p : PortId) (h : Byte) (b : PassBody) : (sendPass p h b s).image = s.image := by
  simp [sendPass]
@[simp] theorem sendPass_live (s : State) (p : PortId) (h : Byte) (b : PassBody) : (sendPass p h b s).live = s.live := by
  simp [sendPass]
@[simp] theorem sendPass_unapplied (s : State) (p : PortId) (h : Byte) (b : PassBody) : (sendPass p h b s).unapplied = s.unapplied := by
  simp [sendPass]
@[simp] theorem sendPass_store (s : State) (p : PortId) (h : Byte) (b : PassBody) : (sendPass p h b s).store = s.store := by
  simp [sendPass]
@[simp] theorem sendPass_engine (s : State) (p : PortId) (h : Byte) (b : PassBody) : (sendPass p h b s).engine = s.engine := by
  simp [sendPass]
@[simp] theorem sendPass_roster (s : State) (p : PortId) (h : Byte) (b : PassBody) : (sendPass p h b s).roster = s.roster := by
  simp [sendPass]
@[simp] theorem sendPass_order (s : State) (p : PortId) (h : Byte) (b : PassBody) : (sendPass p h b s).order = s.order := by
  simp [sendPass]
@[simp] theorem sendPass_answers (s : State) (p : PortId) (h : Byte) (b : PassBody) : (sendPass p h b s).answers = s.answers := by
  simp [sendPass]
@[simp] theorem sendPass_bars (s : State) (p : PortId) (h : Byte) (b : PassBody) : (sendPass p h b s).bars = s.bars := by
  simp [sendPass]
@[simp] theorem sendPass_grace (s : State) (p : PortId) (h : Byte) (b : PassBody) : (sendPass p h b s).grace = s.grace := by
  simp [sendPass]
@[simp] theorem sendPass_nextCommand (s : State) (p : PortId) (h : Byte) (b : PassBody) : (sendPass p h b s).nextCommand = s.nextCommand := by
  simp [sendPass]
@[simp] theorem sendPass_broadcasts (s : State) (p : PortId) (h : Byte) (b : PassBody) : (sendPass p h b s).broadcasts = s.broadcasts := by
  simp [sendPass]
@[simp] theorem sendPass_nextBroadcast (s : State) (p : PortId) (h : Byte) (b : PassBody) : (sendPass p h b s).nextBroadcast = s.nextBroadcast := by
  simp [sendPass]
@[simp] theorem sendPass_queues (s : State) (p : PortId) (h : Byte) (b : PassBody) : (sendPass p h b s).queues = s.queues := by
  simp [sendPass]
@[simp] theorem sendPass_quiet (s : State) (p : PortId) (h : Byte) (b : PassBody) : (sendPass p h b s).quiet = s.quiet := by
  simp [sendPass]
@[simp] theorem sendPass_counters (s : State) (p : PortId) (h : Byte) (b : PassBody) : (sendPass p h b s).counters = s.counters := by
  simp [sendPass]
@[simp] theorem sendPass_freeIndex (s : State) (p : PortId) (h : Byte) (b : PassBody) : (sendPass p h b s).freeIndex = s.freeIndex := by
  simp [sendPass]

/-! ### countWith -/

@[simp] theorem countWith_pending (s : State) (f : NodeCounters → NodeCounters) : (s.countWith f).pending = s.pending := rfl
@[simp] theorem countWith_arrivals (s : State) (f : NodeCounters → NodeCounters) : (s.countWith f).arrivals = s.arrivals := rfl
@[simp] theorem countWith_inReset (s : State) (f : NodeCounters → NodeCounters) : (s.countWith f).inReset = s.inReset := rfl
@[simp] theorem countWith_control (s : State) (f : NodeCounters → NodeCounters) : (s.countWith f).control = s.control := rfl
@[simp] theorem countWith_image (s : State) (f : NodeCounters → NodeCounters) : (s.countWith f).image = s.image := rfl
@[simp] theorem countWith_live (s : State) (f : NodeCounters → NodeCounters) : (s.countWith f).live = s.live := rfl
@[simp] theorem countWith_unapplied (s : State) (f : NodeCounters → NodeCounters) : (s.countWith f).unapplied = s.unapplied := rfl
@[simp] theorem countWith_store (s : State) (f : NodeCounters → NodeCounters) : (s.countWith f).store = s.store := rfl
@[simp] theorem countWith_engine (s : State) (f : NodeCounters → NodeCounters) : (s.countWith f).engine = s.engine := rfl
@[simp] theorem countWith_roster (s : State) (f : NodeCounters → NodeCounters) : (s.countWith f).roster = s.roster := rfl
@[simp] theorem countWith_order (s : State) (f : NodeCounters → NodeCounters) : (s.countWith f).order = s.order := rfl
@[simp] theorem countWith_answers (s : State) (f : NodeCounters → NodeCounters) : (s.countWith f).answers = s.answers := rfl
@[simp] theorem countWith_bars (s : State) (f : NodeCounters → NodeCounters) : (s.countWith f).bars = s.bars := rfl
@[simp] theorem countWith_grace (s : State) (f : NodeCounters → NodeCounters) : (s.countWith f).grace = s.grace := rfl
@[simp] theorem countWith_nextCommand (s : State) (f : NodeCounters → NodeCounters) : (s.countWith f).nextCommand = s.nextCommand := rfl
@[simp] theorem countWith_broadcasts (s : State) (f : NodeCounters → NodeCounters) : (s.countWith f).broadcasts = s.broadcasts := rfl
@[simp] theorem countWith_nextBroadcast (s : State) (f : NodeCounters → NodeCounters) : (s.countWith f).nextBroadcast = s.nextBroadcast := rfl
@[simp] theorem countWith_queues (s : State) (f : NodeCounters → NodeCounters) : (s.countWith f).queues = s.queues := rfl
@[simp] theorem countWith_ports (s : State) (f : NodeCounters → NodeCounters) : (s.countWith f).ports = s.ports := rfl
@[simp] theorem countWith_quiet (s : State) (f : NodeCounters → NodeCounters) : (s.countWith f).quiet = s.quiet := rfl
@[simp] theorem countWith_freeIndex (s : State) (f : NodeCounters → NodeCounters) : (s.countWith f).freeIndex = s.freeIndex := rfl

/-! ### setRx -/

@[simp] theorem setRx_pending (s : State) (q : Fin 4) (x : RxQueue) : (s.setRx q x).pending = s.pending := rfl
@[simp] theorem setRx_arrivals (s : State) (q : Fin 4) (x : RxQueue) : (s.setRx q x).arrivals = s.arrivals := rfl
@[simp] theorem setRx_inReset (s : State) (q : Fin 4) (x : RxQueue) : (s.setRx q x).inReset = s.inReset := rfl
@[simp] theorem setRx_control (s : State) (q : Fin 4) (x : RxQueue) : (s.setRx q x).control = s.control := rfl
@[simp] theorem setRx_image (s : State) (q : Fin 4) (x : RxQueue) : (s.setRx q x).image = s.image := rfl
@[simp] theorem setRx_live (s : State) (q : Fin 4) (x : RxQueue) : (s.setRx q x).live = s.live := rfl
@[simp] theorem setRx_unapplied (s : State) (q : Fin 4) (x : RxQueue) : (s.setRx q x).unapplied = s.unapplied := rfl
@[simp] theorem setRx_store (s : State) (q : Fin 4) (x : RxQueue) : (s.setRx q x).store = s.store := rfl
@[simp] theorem setRx_engine (s : State) (q : Fin 4) (x : RxQueue) : (s.setRx q x).engine = s.engine := rfl
@[simp] theorem setRx_roster (s : State) (q : Fin 4) (x : RxQueue) : (s.setRx q x).roster = s.roster := rfl
@[simp] theorem setRx_order (s : State) (q : Fin 4) (x : RxQueue) : (s.setRx q x).order = s.order := rfl
@[simp] theorem setRx_answers (s : State) (q : Fin 4) (x : RxQueue) : (s.setRx q x).answers = s.answers := rfl
@[simp] theorem setRx_bars (s : State) (q : Fin 4) (x : RxQueue) : (s.setRx q x).bars = s.bars := rfl
@[simp] theorem setRx_grace (s : State) (q : Fin 4) (x : RxQueue) : (s.setRx q x).grace = s.grace := rfl
@[simp] theorem setRx_nextCommand (s : State) (q : Fin 4) (x : RxQueue) : (s.setRx q x).nextCommand = s.nextCommand := rfl
@[simp] theorem setRx_broadcasts (s : State) (q : Fin 4) (x : RxQueue) : (s.setRx q x).broadcasts = s.broadcasts := rfl
@[simp] theorem setRx_nextBroadcast (s : State) (q : Fin 4) (x : RxQueue) : (s.setRx q x).nextBroadcast = s.nextBroadcast := rfl
@[simp] theorem setRx_ports (s : State) (q : Fin 4) (x : RxQueue) : (s.setRx q x).ports = s.ports := rfl
@[simp] theorem setRx_quiet (s : State) (q : Fin 4) (x : RxQueue) : (s.setRx q x).quiet = s.quiet := rfl
@[simp] theorem setRx_counters (s : State) (q : Fin 4) (x : RxQueue) : (s.setRx q x).counters = s.counters := rfl
@[simp] theorem setRx_freeIndex (s : State) (q : Fin 4) (x : RxQueue) : (s.setRx q x).freeIndex = s.freeIndex := rfl

/-! ### deposit -/

@[simp] theorem deposit_pending (s : State) (q : Fin 4) (r : Record) : (deposit q r s).pending = s.pending := by
  simp only [deposit]; (repeat (first | rfl | split))
@[simp] theorem deposit_arrivals (s : State) (q : Fin 4) (r : Record) : (deposit q r s).arrivals = s.arrivals := by
  simp only [deposit]; (repeat (first | rfl | split))
@[simp] theorem deposit_inReset (s : State) (q : Fin 4) (r : Record) : (deposit q r s).inReset = s.inReset := by
  simp only [deposit]; (repeat (first | rfl | split))
@[simp] theorem deposit_image (s : State) (q : Fin 4) (r : Record) : (deposit q r s).image = s.image := by
  simp only [deposit]; (repeat (first | rfl | split))
@[simp] theorem deposit_live (s : State) (q : Fin 4) (r : Record) : (deposit q r s).live = s.live := by
  simp only [deposit]; (repeat (first | rfl | split))
@[simp] theorem deposit_unapplied (s : State) (q : Fin 4) (r : Record) : (deposit q r s).unapplied = s.unapplied := by
  simp only [deposit]; (repeat (first | rfl | split))
@[simp] theorem deposit_store (s : State) (q : Fin 4) (r : Record) : (deposit q r s).store = s.store := by
  simp only [deposit]; (repeat (first | rfl | split))
@[simp] theorem deposit_engine (s : State) (q : Fin 4) (r : Record) : (deposit q r s).engine = s.engine := by
  simp only [deposit]; (repeat (first | rfl | split))
@[simp] theorem deposit_roster (s : State) (q : Fin 4) (r : Record) : (deposit q r s).roster = s.roster := by
  simp only [deposit]; (repeat (first | rfl | split))
@[simp] theorem deposit_order (s : State) (q : Fin 4) (r : Record) : (deposit q r s).order = s.order := by
  simp only [deposit]; (repeat (first | rfl | split))
@[simp] theorem deposit_answers (s : State) (q : Fin 4) (r : Record) : (deposit q r s).answers = s.answers := by
  simp only [deposit]; (repeat (first | rfl | split))
@[simp] theorem deposit_bars (s : State) (q : Fin 4) (r : Record) : (deposit q r s).bars = s.bars := by
  simp only [deposit]; (repeat (first | rfl | split))
@[simp] theorem deposit_grace (s : State) (q : Fin 4) (r : Record) : (deposit q r s).grace = s.grace := by
  simp only [deposit]; (repeat (first | rfl | split))
@[simp] theorem deposit_nextCommand (s : State) (q : Fin 4) (r : Record) : (deposit q r s).nextCommand = s.nextCommand := by
  simp only [deposit]; (repeat (first | rfl | split))
@[simp] theorem deposit_broadcasts (s : State) (q : Fin 4) (r : Record) : (deposit q r s).broadcasts = s.broadcasts := by
  simp only [deposit]; (repeat (first | rfl | split))
@[simp] theorem deposit_nextBroadcast (s : State) (q : Fin 4) (r : Record) : (deposit q r s).nextBroadcast = s.nextBroadcast := by
  simp only [deposit]; (repeat (first | rfl | split))
@[simp] theorem deposit_ports (s : State) (q : Fin 4) (r : Record) : (deposit q r s).ports = s.ports := by
  simp only [deposit]; (repeat (first | rfl | split))
@[simp] theorem deposit_quiet (s : State) (q : Fin 4) (r : Record) : (deposit q r s).quiet = s.quiet := by
  simp only [deposit]; (repeat (first | rfl | split))
@[simp] theorem deposit_counters (s : State) (q : Fin 4) (r : Record) : (deposit q r s).counters = s.counters := by
  simp only [deposit]; (repeat (first | rfl | split))
@[simp] theorem deposit_freeIndex (s : State) (q : Fin 4) (r : Record) : (deposit q r s).freeIndex = s.freeIndex := by
  simp only [deposit]; (repeat (first | rfl | split))

/-! ### withPlan -/

@[simp] theorem withPlan_pending (s : State) (p : Plan) : (s.withPlan p).pending = s.pending := rfl
@[simp] theorem withPlan_arrivals (s : State) (p : Plan) : (s.withPlan p).arrivals = s.arrivals := rfl
@[simp] theorem withPlan_inReset (s : State) (p : Plan) : (s.withPlan p).inReset = s.inReset := rfl
@[simp] theorem withPlan_control (s : State) (p : Plan) : (s.withPlan p).control = s.control := rfl
@[simp] theorem withPlan_image (s : State) (p : Plan) : (s.withPlan p).image = s.image := rfl
@[simp] theorem withPlan_live (s : State) (p : Plan) : (s.withPlan p).live = s.live := rfl
@[simp] theorem withPlan_unapplied (s : State) (p : Plan) : (s.withPlan p).unapplied = s.unapplied := rfl
@[simp] theorem withPlan_store (s : State) (p : Plan) : (s.withPlan p).store = s.store := rfl
@[simp] theorem withPlan_roster (s : State) (p : Plan) : (s.withPlan p).roster = s.roster := rfl
@[simp] theorem withPlan_order (s : State) (p : Plan) : (s.withPlan p).order = s.order := rfl
@[simp] theorem withPlan_answers (s : State) (p : Plan) : (s.withPlan p).answers = s.answers := rfl
@[simp] theorem withPlan_bars (s : State) (p : Plan) : (s.withPlan p).bars = s.bars := rfl
@[simp] theorem withPlan_grace (s : State) (p : Plan) : (s.withPlan p).grace = s.grace := rfl
@[simp] theorem withPlan_nextCommand (s : State) (p : Plan) : (s.withPlan p).nextCommand = s.nextCommand := rfl
@[simp] theorem withPlan_broadcasts (s : State) (p : Plan) : (s.withPlan p).broadcasts = s.broadcasts := rfl
@[simp] theorem withPlan_nextBroadcast (s : State) (p : Plan) : (s.withPlan p).nextBroadcast = s.nextBroadcast := rfl
@[simp] theorem withPlan_queues (s : State) (p : Plan) : (s.withPlan p).queues = s.queues := rfl
@[simp] theorem withPlan_ports (s : State) (p : Plan) : (s.withPlan p).ports = s.ports := rfl
@[simp] theorem withPlan_quiet (s : State) (p : Plan) : (s.withPlan p).quiet = s.quiet := rfl
@[simp] theorem withPlan_counters (s : State) (p : Plan) : (s.withPlan p).counters = s.counters := rfl
@[simp] theorem withPlan_freeIndex (s : State) (p : Plan) : (s.withPlan p).freeIndex = s.freeIndex := rfl

/-! ### withPlanOf -/

@[simp] theorem withPlanOf_pending (s : State) (ago : Fin 3) (p : Plan) : (s.withPlanOf ago p).pending = s.pending := rfl
@[simp] theorem withPlanOf_arrivals (s : State) (ago : Fin 3) (p : Plan) : (s.withPlanOf ago p).arrivals = s.arrivals := rfl
@[simp] theorem withPlanOf_inReset (s : State) (ago : Fin 3) (p : Plan) : (s.withPlanOf ago p).inReset = s.inReset := rfl
@[simp] theorem withPlanOf_control (s : State) (ago : Fin 3) (p : Plan) : (s.withPlanOf ago p).control = s.control := rfl
@[simp] theorem withPlanOf_image (s : State) (ago : Fin 3) (p : Plan) : (s.withPlanOf ago p).image = s.image := rfl
@[simp] theorem withPlanOf_live (s : State) (ago : Fin 3) (p : Plan) : (s.withPlanOf ago p).live = s.live := rfl
@[simp] theorem withPlanOf_unapplied (s : State) (ago : Fin 3) (p : Plan) : (s.withPlanOf ago p).unapplied = s.unapplied := rfl
@[simp] theorem withPlanOf_store (s : State) (ago : Fin 3) (p : Plan) : (s.withPlanOf ago p).store = s.store := rfl
@[simp] theorem withPlanOf_roster (s : State) (ago : Fin 3) (p : Plan) : (s.withPlanOf ago p).roster = s.roster := rfl
@[simp] theorem withPlanOf_order (s : State) (ago : Fin 3) (p : Plan) : (s.withPlanOf ago p).order = s.order := rfl
@[simp] theorem withPlanOf_answers (s : State) (ago : Fin 3) (p : Plan) : (s.withPlanOf ago p).answers = s.answers := rfl
@[simp] theorem withPlanOf_bars (s : State) (ago : Fin 3) (p : Plan) : (s.withPlanOf ago p).bars = s.bars := rfl
@[simp] theorem withPlanOf_grace (s : State) (ago : Fin 3) (p : Plan) : (s.withPlanOf ago p).grace = s.grace := rfl
@[simp] theorem withPlanOf_nextCommand (s : State) (ago : Fin 3) (p : Plan) : (s.withPlanOf ago p).nextCommand = s.nextCommand := rfl
@[simp] theorem withPlanOf_broadcasts (s : State) (ago : Fin 3) (p : Plan) : (s.withPlanOf ago p).broadcasts = s.broadcasts := rfl
@[simp] theorem withPlanOf_nextBroadcast (s : State) (ago : Fin 3) (p : Plan) : (s.withPlanOf ago p).nextBroadcast = s.nextBroadcast := rfl
@[simp] theorem withPlanOf_queues (s : State) (ago : Fin 3) (p : Plan) : (s.withPlanOf ago p).queues = s.queues := rfl
@[simp] theorem withPlanOf_ports (s : State) (ago : Fin 3) (p : Plan) : (s.withPlanOf ago p).ports = s.ports := rfl
@[simp] theorem withPlanOf_quiet (s : State) (ago : Fin 3) (p : Plan) : (s.withPlanOf ago p).quiet = s.quiet := rfl
@[simp] theorem withPlanOf_counters (s : State) (ago : Fin 3) (p : Plan) : (s.withPlanOf ago p).counters = s.counters := rfl
@[simp] theorem withPlanOf_freeIndex (s : State) (ago : Fin 3) (p : Plan) : (s.withPlanOf ago p).freeIndex = s.freeIndex := rfl

end Sys2Proof.Machine
end

