-- ==== Sys2Proof/Laws/Ops.lean ====
section
/-!
SUPPORT. Reading after writing, and for each shared operation the one lemma that says all it can do.
-/
namespace Sys2Proof.Machine

/-! ### Roster entries -/

theorem entry_congr {s t : State} (h : s.roster = t.roster) (i : Index) : s.entry i = t.entry i := by simp [State.entry, h]

theorem entry_setEntry (s : State) (i j : Index) (e : Entry) : (s.setEntry i e).entry j = if i = j then e else s.entry j := by
  simp [State.entry, State.setEntry, Vector.getElem_set, Fin.ext_iff]

@[simp] theorem entry_setEntry_self (s : State) (i : Index) (e : Entry) : (s.setEntry i e).entry i = e := by
  simp [entry_setEntry]

theorem entry_setEntry_ne (s : State) {i j : Index} (e : Entry) (h : i ≠ j) : (s.setEntry i e).entry j = s.entry j := by
  simp [entry_setEntry, h]

theorem entry_updateEntry (s : State) (i j : Index) (f : Entry → Entry) :
    (s.updateEntry i f).entry j = if i = j then f (s.entry j) else s.entry j := by
  rw [State.updateEntry, entry_setEntry]
  split
  · next h => rw [h]
  · rfl

theorem entry_slotIn (s : State) (i j : Index) (e : Entry) : (s.slotIn i e).entry j = if i = j then e else s.entry j :=
  entry_setEntry s i j e

theorem entry_mapEntries (s : State) (f : Entry → Entry) (i : Index) : (s.mapEntries f).entry i = f (s.entry i) := by
  simp [State.entry, State.mapEntries]

@[simp] theorem order_slotIn (s : State) (i : Index) (e : Entry) : (s.slotIn i e).order = s.order ++ [i] := rfl

@[simp] theorem entry_notify (s : State) (n : Notice) (i : Index) : (notify n s).entry i = s.entry i := rfl

@[simp] theorem entry_notifyAll (s : State) (ns : List Notice) (i : Index) : (notifyAll ns s).entry i = s.entry i :=
  entry_congr (notifyAll_roster s ns) i

@[simp] theorem entry_addAnswer (s : State) (a : Answer) (i : Index) : (addAnswer a s).entry i = s.entry i :=
  entry_congr (addAnswer_roster s a) i

@[simp] theorem entry_addBar (s : State) (c : CarNumber) (r : Nat) (i : Index) : (addBar c r s).entry i = s.entry i :=
  entry_congr (addBar_roster s c r) i

@[simp] theorem entry_sendHandover (s : State) (p : PortId) (d : Byte) (b : ChainBody) (i : Index) :
    (sendHandover p d b s).entry i = s.entry i := entry_congr (sendHandover_roster s p d b) i

@[simp] theorem entry_sendToPeer (s : State) (n : Option Byte) (b : ChainBody) (i : Index) :
    (sendToPeer n b s).entry i = s.entry i := entry_congr (sendToPeer_roster s n b) i

@[simp] theorem entry_sendPass (s : State) (p : PortId) (h : Byte) (b : PassBody) (i : Index) :
    (sendPass p h b s).entry i = s.entry i := entry_congr (sendPass_roster s p h b) i

@[simp] theorem entry_deposit (s : State) (q : Fin 4) (r : Record) (i : Index) : (deposit q r s).entry i = s.entry i :=
  entry_congr (deposit_roster s q r) i

@[simp] theorem entry_updatePort (s : State) (p : PortId) (f : Port → Port) (i : Index) :
    (s.updatePort p f).entry i = s.entry i := entry_congr (updatePort_roster s p f) i

@[simp] theorem entry_countWith (s : State) (f : NodeCounters → NodeCounters) (i : Index) :
    (s.countWith f).entry i = s.entry i := rfl

@[simp] theorem entry_withPlan (s : State) (p : Plan) (i : Index) : (s.withPlan p).entry i = s.entry i := rfl

@[simp] theorem entry_withPlanOf (s : State) (ago : Fin 3) (p : Plan) (i : Index) : (s.withPlanOf ago p).entry i = s.entry i := rfl

@[simp] theorem entry_setRx (s : State) (q : Fin 4) (x : RxQueue) (i : Index) : (s.setRx q x).entry i = s.entry i := rfl

/-- The index found for a car is that of an entry that is not FREE and holds the car (R29). -/
theorem findCar_some {s : State} {car : CarNumber} {i : Index} (h : s.findCar car = some i) :
    (s.entry i).state ≠ .free ∧ (s.entry i).car = car := by simpa using List.find?_some h

/-- No index found for a car: no entry that is not FREE holds it (R29). -/
theorem findCar_none {s : State} {car : CarNumber} (h : s.findCar car = none) (i : Index) :
    (s.entry i).state ≠ .free → (s.entry i).car ≠ car := by
  intro hs hc
  have := (List.find?_eq_none.mp h) i (List.mem_finRange i)
  simp [hs, hc] at this

/-- The first FREE index is FREE (R29). -/
theorem firstFree_some {s : State} {i : Index} (h : s.firstFree = some i) : (s.entry i).state = .free := by
  simpa using List.find?_some h

/-! ### Freeing (R48) -/

theorem entry_clearEntry (s : State) (i j : Index) :
    (clearEntry i s).entry j = if i = j then Entry.vacant else s.entry j := entry_setEntry s i j Entry.vacant

theorem entry_freeEntry (s : State) (i j : Index) (n : Option Notice) (r : UndeliveredReason) :
    (freeEntry i n r s).entry j = if i = j then Entry.vacant else s.entry j := by
  rw [freeEntry, entry_notifyAll, entry_clearEntry]

/-- All that freeing an entry does: FREE and vacant, out of the order table, its place answer gone, its plan positions stale,
and its notices sent (R48). -/
theorem freeEntry_spec (s : State) (i : Index) (n : Option Notice) (r : UndeliveredReason) :
    (freeEntry i n r s).order = s.order.erase i ∧
    (freeEntry i n r s).answers = (clearEntry i s).answers ∧
    (freeEntry i n r s).engine = (clearEntry i s).engine ∧
    (freeEntry i n r s).control = (notifyAll (n.toList ++ (s.entry i).undelivered r) s).control := by
  refine ⟨by simp [freeEntry, clearEntry], by simp [freeEntry], by simp [freeEntry], ?_⟩
  have key : ∀ (ns : List Notice) (a b : State), a.control = b.control → (notifyAll ns a).control = (notifyAll ns b).control := by
    intro ns
    induction ns with
    | nil => intro a b h; exact h
    | cons m ms ih => intro a b h; exact ih _ _ (by simp [notify, h])
  exact key _ _ _ rfl

/-! ### Notices and replies (R165 to R167) -/

/-- A notice that finds room is queued at the tail, and goes out at once when nothing is ahead of it (R166, R167). -/
theorem post_room {k : ControlLink} (n : Notice) (h : k.notices.length < noticeCapacity) :
    k.post n = ControlLink.kick { k with notices := k.notices ++ [n] } := by simp [ControlLink.post, h]

/-- A notice that finds the queue full is dropped and counted (R166). -/
theorem post_full {k : ControlLink} (n : Notice) (h : ¬ k.notices.length < noticeCapacity) :
    k.post n = { k with noticesLost := count16 k.noticesLost } := by simp [ControlLink.post, h]

/-- A busy transmitter takes nothing (R167). -/
theorem kick_line {k : ControlLink} (h : k.line.isSome = true) : k.kick = k := by
  obtain ⟨f, hf⟩ := Option.isSome_iff_exists.mp h
  simp [ControlLink.kick, hf]

/-- An idle transmitter takes the head of the reply queue before any notice (R167). -/
theorem kick_reply {k : ControlLink} {r : Reply} {rs : List Reply} (hl : k.line = none) (hr : k.replies = r :: rs) :
    k.kick = { k with replies := rs, line := some (.reply r) } := by simp [ControlLink.kick, hl, hr]

/-- With no reply waiting, an idle transmitter takes the head of the notice queue (R167). -/
theorem kick_notice {k : ControlLink} {n : Notice} {ns : List Notice} (hl : k.line = none) (hr : k.replies = [])
    (hn : k.notices = n :: ns) (hi : k.restarting = false) (h0 : k.noticesLost = 0) :
    k.kick = { k with notices := ns, line := some (.notice n) } := by simp [ControlLink.kick, hl, hr, hn, hi, h0]

/-- A notice that leaves while notices were lost makes NOTICES_LOST in the freed place (R166). -/
theorem kick_noticesLost {k : ControlLink} {n : Notice} {ns : List Notice} (hl : k.line = none) (hr : k.replies = [])
    (hn : k.notices = n :: ns) (hi : k.restarting = false) (h0 : 0 < k.noticesLost) :
    k.kick = { k with notices := ns ++ [.noticesLost k.noticesLost], noticesLost := 0, line := some (.notice n) } := by
  simp [ControlLink.kick, hl, hr, hn, hi, h0]

/-- With nothing queued, the transmitter rests (R167). -/
theorem kick_rest {k : ControlLink} (hr : k.replies = []) (hn : k.notices = []) : k.kick = k := by
  unfold ControlLink.kick
  split <;> simp_all

/-- What taking the next frame never touches. -/
theorem kick_frame (k : ControlLink) :
    k.kick.straps = k.straps ∧ k.kick.buffer = k.buffer ∧ k.kick.busy = k.busy ∧ k.kick.badFrames = k.badFrames ∧
    k.kick.restarting = k.restarting ∧ k.kick.receiver = k.receiver := by
  unfold ControlLink.kick
  repeat' split
  all_goals exact ⟨rfl, rfl, rfl, rfl, rfl, rfl⟩

/-! ### Answers and bars (R41, R47) -/

theorem addAnswer_room {s : State} {a : Answer} (h : s.answers.length < answerCapacity) (hw : s.answerWaits a.car = false) :
    addAnswer a s = { s with answers := s.answers ++ [a] } := by simp [addAnswer, h, hw]

theorem addAnswer_not {s : State} {a : Answer} (h : ¬ (s.answers.length < answerCapacity ∧ s.answerWaits a.car = false)) :
    addAnswer a s = s := by simp [addAnswer, h]

/-! ### Chain ports (R131) -/

@[simp] theorem port_setPort_self (s : State) (p : PortId) (x : Port) : (s.setPort p x).port p = x := by cases p <;> rfl

theorem port_setPort_ne (s : State) {p q : PortId} (x : Port) (h : p ≠ q) : (s.setPort p x).port q = s.port q := by
  cases p <;> cases q <;> first | rfl | exact absurd rfl h

@[simp] theorem port_updatePort_self (s : State) (p : PortId) (f : Port → Port) : (s.updatePort p f).port p = f (s.port p) := by
  simp [State.updatePort]

theorem port_updatePort_ne (s : State) {p q : PortId} (f : Port → Port) (h : p ≠ q) : (s.updatePort p f).port q = s.port q := by
  simp [State.updatePort, port_setPort_ne, h]

/-- What taking the next frame of a port never touches. -/
theorem Port.kick_frame (x : Port) : x.kick.isUp = x.isUp ∧ x.kick.receiver = x.receiver ∧ x.kick.counters = x.counters := by
  unfold Port.kick
  repeat' split
  all_goals exact ⟨rfl, rfl, rfl⟩

/-- A handover frame submitted to an UP port with room is queued; it is dropped and counted otherwise (R131). -/
theorem submitHandover_spec (f : ChainFrame) (x : Port) :
    x.submitHandover f =
      if x.isUp ∧ x.handover.length < handoverCapacity then Port.kick { x with handover := x.handover ++ [f] } else x.drop := rfl

/-- A pass-along frame submitted to an UP port with room is queued; it is dropped and counted otherwise (R131). -/
theorem submitPass_spec (f : ChainFrame) (x : Port) :
    x.submitPass f =
      if x.isUp ∧ x.passAlong.length < passCapacity then Port.kick { x with passAlong := x.passAlong ++ [f] } else x.drop := rfl

/-! ### Plans (R17, log 18) -/

/-- The plan written is the plan read, and the two others stay. -/
theorem planOf_withPlanOf (s : State) (a b : Fin 3) (p : Plan) :
    (s.withPlanOf a p).engine.planOf b = if a = b then p else s.engine.planOf b := by
  fin_cases a <;> fin_cases b <;> rfl

@[simp] theorem forgetSent_planOf (n : Half) (e : Engine) (ago : Fin 3) :
    (e.forgetSent n).planOf ago = (e.planOf ago).forgetSent n := by fin_cases ago <;> rfl

@[simp] theorem forgetSent_state (n : Half) (e : Engine) : (e.forgetSent n).state = e.state := rfl
@[simp] theorem forgetSent_round (n : Half) (e : Engine) : (e.forgetSent n).round = e.round := rfl
@[simp] theorem forgetSent_inProgress (n : Half) (e : Engine) : (e.forgetSent n).inProgress = e.inProgress := rfl
@[simp] theorem forgetSent_resumePending (n : Half) (e : Engine) : (e.forgetSent n).resumePending = e.resumePending := rfl
@[simp] theorem forgetSent_radio (n : Half) (e : Engine) : (e.forgetSent n).radio = e.radio := rfl

/-- A plan that forgets a number has its positions, but for what their slots carried: none carried that number, and what else a
slot carried stays (R94). -/
theorem mem_forgetSent {n : Half} {p : Plan} {q : Position} (h : q ∈ (p.forgetSent n).positions) :
    q.sent ≠ .command n ∧ ∃ q₀ ∈ p.positions, { q with sent := q₀.sent } = q₀ ∧
      (q₀.sent ≠ .command n → q = q₀) ∧ (q₀.sent = .command n → q.sent = .nothing) := by
  obtain ⟨q₀, hmem, rfl⟩ := List.mem_map.1 h
  by_cases hs : q₀.sent = .command n <;> simp only [hs, if_true, if_false]
  · exact ⟨by simp, q₀, hmem, by simp, by simp [hs], by simp⟩
  · exact ⟨by simpa using hs, q₀, hmem, by simp, by simp [hs], by simp [hs]⟩

/-! ### Receive queues (R80 to R82) -/

theorem rx_setRx (s : State) (q r : Fin 4) (x : RxQueue) : (s.setRx q x).rx r = if q = r then x else s.rx r := by
  simp [State.rx, State.setRx, Vector.getElem_set, Fin.ext_iff]

@[simp] theorem rx_setRx_self (s : State) (q : Fin 4) (x : RxQueue) : (s.setRx q x).rx q = x := by simp [rx_setRx]

@[simp] theorem rx_notify (s : State) (n : Notice) (q : Fin 4) : (notify n s).rx q = s.rx q := rfl

/-- An arrival at a queue with room: the record at its tail, cut to the storage size (R79, R80). -/
theorem deposit_room {s : State} {q : Fin 4} {r : Record} (h : (s.rx q).records.length < (s.queueSetting q).depth) :
    (deposit q r s).rx q =
      { s.rx q with records := (s.rx q).records ++ [r.keepIn (s.queueSetting q).storage] } := by
  simp only [deposit, h, if_true]
  split <;> simp

/-- An arrival at a full queue: the records stay, the lost count rises, an episode stands unless the depth is 0 (R82). -/
theorem deposit_full {s : State} {q : Fin 4} {r : Record} (h : ¬ (s.rx q).records.length < (s.queueSetting q).depth) :
    (deposit q r s).rx q = (s.rx q).lose (s.queueSetting q).depth := by
  simp only [deposit, h, if_false]
  split <;> simp

/-- An arrival touches no other queue. -/
theorem deposit_other {s : State} {q p : Fin 4} {r : Record} (h : q ≠ p) : (deposit q r s).rx p = s.rx p := by
  simp only [deposit]
  repeat' split
  all_goals simp [rx_setRx, h]

/-! ### The allowance grant (R7) -/

/-- No code fits: the grant has no result. -/
theorem grantFrom_none {s : State} {cls : RateClass} (n : Nat) (hn : n ≤ 15)
    (h : ∀ code : Code, 1 ≤ code.toNat → code.toNat ≤ n → s.fitsOneMore code cls = false) : grantFrom s cls n = none := by
  induction n with
  | zero => rfl
  | succ n ih =>
    have ht : (BitVec.ofNat 4 (n + 1)).toNat = n + 1 := by simp; omega
    simp [grantFrom, h (BitVec.ofNat 4 (n + 1)) (by omega) (by omega)]
    exact ih (by omega) fun c a b => h c a (by omega)

/-- The grant is the largest code, from the request down to 1, that fits. -/
theorem grantFrom_some {s : State} {cls : RateClass} (n : Nat) (hn : n ≤ 15) (code : Code) (h1 : 1 ≤ code.toNat)
    (h2 : code.toNat ≤ n) (h3 : s.fitsOneMore code cls = true)
    (h : ∀ d : Code, code.toNat < d.toNat → d.toNat ≤ n → s.fitsOneMore d cls = false) : grantFrom s cls n = some code := by
  induction n with
  | zero => omega
  | succ n ih =>
    have ht : (BitVec.ofNat 4 (n + 1)).toNat = n + 1 := by simp; omega
    by_cases he : code.toNat = n + 1
    · have : code = BitVec.ofNat 4 (n + 1) := by apply BitVec.eq_of_toNat_eq; rw [ht, he]
      simp [grantFrom, ← this, h3]
    · simp only [grantFrom, h (BitVec.ofNat 4 (n + 1)) (by omega) (by omega)]
      exact ih (by omega) (by omega) fun d a b => h d a (by omega)

end Sys2Proof.Machine
end

