-- ==== Sys2Proof/Laws/PerInstr.lean ====
section
/-!
SUPPORT. One lemma per command: the request that a request row stands for has one of the 24 request kinds (10.5), so that its
reply's kind is that kind plus 0x80 (R163).
-/
namespace Sys2Proof.Laws
open Sys2Proof.Machine

/-- The request of a row, when it has one, has a kind from 0x01 to 0x18 (10.5). -/
def RequestKind.Statement (c : Instr) : Prop :=
  ∀ r, requestOf c = some r → 1 ≤ r.kind.toNat ∧ r.kind.toNat ≤ 0x18

theorem RequestKind.fullReset (cause : ResetCause) (straps : Straps) (quietReq : Bool) : RequestKind.Statement (.fullReset cause straps quietReq) := by rintro r ⟨⟩
theorem RequestKind.requestReceived (kind tag : Byte) (body : List Byte) : RequestKind.Statement (.requestReceived kind tag body) := by rintro r ⟨⟩
theorem RequestKind.controlBadFrame : RequestKind.Statement .controlBadFrame := by rintro r ⟨⟩
theorem RequestKind.controlGapTimeout : RequestKind.Statement .controlGapTimeout := by rintro r ⟨⟩
theorem RequestKind.badRequest (kind tag : Byte) (body : List Byte) : RequestKind.Statement (.badRequest kind tag body) := by rintro r ⟨⟩
theorem RequestKind.status (tag : Byte) : RequestKind.Statement (.status tag) := by rintro r ⟨⟩; simp
theorem RequestKind.restart (tag : Byte) : RequestKind.Statement (.restart tag) := by rintro r ⟨⟩; simp
theorem RequestKind.restartTakesEffect (quietReq : Bool) : RequestKind.Statement (.restartTakesEffect quietReq) := by rintro r ⟨⟩
theorem RequestKind.set (tag group : Byte) (fields : List Byte) : RequestKind.Statement (.set tag group fields) := by rintro r ⟨⟩; simp
theorem RequestKind.get (tag group : Byte) : RequestKind.Statement (.get tag group) := by rintro r ⟨⟩; simp
theorem RequestKind.save (tag : Byte) : RequestKind.Statement (.save tag) := by rintro r ⟨⟩; simp
theorem RequestKind.saveEraseDone : RequestKind.Statement .saveEraseDone := by rintro r ⟨⟩
theorem RequestKind.saveByteProgrammed (readBack : Byte) : RequestKind.Statement (.saveByteProgrammed readBack) := by rintro r ⟨⟩
theorem RequestKind.start (tag : Byte) : RequestKind.Statement (.start tag) := by rintro r ⟨⟩; simp
theorem RequestKind.stop (tag : Byte) : RequestKind.Statement (.stop tag) := by rintro r ⟨⟩; simp
theorem RequestKind.stepRound (tag : Byte) : RequestKind.Statement (.stepRound tag) := by rintro r ⟨⟩; simp
theorem RequestKind.plan (tag : Byte) : RequestKind.Statement (.plan tag) := by rintro r ⟨⟩; simp
theorem RequestKind.roster (tag part first : Byte) : RequestKind.Statement (.roster tag part first) := by rintro r ⟨⟩; simp
theorem RequestKind.admitCar (tag : Byte) (car : CarNumber) : RequestKind.Statement (.admitCar tag car) := by rintro r ⟨⟩; simp
theorem RequestKind.deny (tag : Byte) (car : CarNumber) (bar : Half) : RequestKind.Statement (.deny tag car bar) := by rintro r ⟨⟩; simp
theorem RequestKind.evict (tag : Byte) (car : CarNumber) (bar : Half) : RequestKind.Statement (.evict tag car bar) := by rintro r ⟨⟩; simp
theorem RequestKind.setOrder (tag : Byte) (list : List Byte) : RequestKind.Statement (.setOrder tag list) := by rintro r ⟨⟩; simp
theorem RequestKind.survey (tag : Byte) (car : CarNumber) (value : Byte) : RequestKind.Statement (.survey tag car value) := by rintro r ⟨⟩; simp
theorem RequestKind.send (tag : Byte) (car : CarNumber) (kind : Byte) (payload : List Byte) (expiry : Half) (notify : Byte) : RequestKind.Statement (.send tag car kind payload expiry notify) := by rintro r ⟨⟩; simp
theorem RequestKind.withdraw (tag : Byte) (number : Half) : RequestKind.Statement (.withdraw tag number) := by rintro r ⟨⟩; simp
theorem RequestKind.broadcast (tag : Byte) (payload : List Byte) (repeats urgent : Byte) : RequestKind.Statement (.broadcast tag payload repeats urgent) := by rintro r ⟨⟩; simp
theorem RequestKind.take (tag queue count : Byte) : RequestKind.Statement (.take tag queue count) := by rintro r ⟨⟩; simp
theorem RequestKind.peek (tag queue : Byte) : RequestKind.Statement (.peek tag queue) := by rintro r ⟨⟩; simp
theorem RequestKind.flush (tag queue : Byte) : RequestKind.Statement (.flush tag queue) := by rintro r ⟨⟩; simp
theorem RequestKind.quiet (tag value : Byte) (moment : Moment) : RequestKind.Statement (.quiet tag value moment) := by rintro r ⟨⟩; simp
theorem RequestKind.counts (tag scope index : Byte) : RequestKind.Statement (.counts tag scope index) := by rintro r ⟨⟩; simp
theorem RequestKind.clearCounts (tag scope index : Byte) : RequestKind.Statement (.clearCounts tag scope index) := by rintro r ⟨⟩; simp
theorem RequestKind.controlFrameSent : RequestKind.Statement .controlFrameSent := by rintro r ⟨⟩
theorem RequestKind.roundStart : RequestKind.Statement .roundStart := by rintro r ⟨⟩
theorem RequestKind.offerTimerExpiry (index : Index) : RequestKind.Statement (.offerTimerExpiry index) := by rintro r ⟨⟩
theorem RequestKind.moveTimerExpiry (index : Index) : RequestKind.Statement (.moveTimerExpiry index) := by rintro r ⟨⟩
theorem RequestKind.arrivalTimerExpiry (index : Index) : RequestKind.Statement (.arrivalTimerExpiry index) := by rintro r ⟨⟩
theorem RequestKind.confirmTimerExpiry (index : Index) : RequestKind.Statement (.confirmTimerExpiry index) := by rintro r ⟨⟩
theorem RequestKind.barExpiry (car : CarNumber) : RequestKind.Statement (.barExpiry car) := by rintro r ⟨⟩
theorem RequestKind.commandExpiry (number : Half) : RequestKind.Statement (.commandExpiry number) := by rintro r ⟨⟩
theorem RequestKind.broadcastDone : RequestKind.Statement .broadcastDone := by rintro r ⟨⟩
theorem RequestKind.roundComplete : RequestKind.Statement .roundComplete := by rintro r ⟨⟩
theorem RequestKind.slotStart (position : Fin 24) : RequestKind.Statement (.slotStart position) := by rintro r ⟨⟩
theorem RequestKind.uplinkWindowClose (ago : Fin 3) (position : Fin 24) (result : UplinkResult) : RequestKind.Statement (.uplinkWindowClose ago position result) := by rintro r ⟨⟩
theorem RequestKind.joinWindowClose (ago : Fin 3) (slot : Fin 4) (result : JoinResult) : RequestKind.Statement (.joinWindowClose ago slot result) := by rintro r ⟨⟩
theorem RequestKind.strayBurst : RequestKind.Statement .strayBurst := by rintro r ⟨⟩
theorem RequestKind.quietBreach (car : Option CarNumber) (silent : Bool) : RequestKind.Statement (.quietBreach car silent) := by rintro r ⟨⟩
theorem RequestKind.lineClaimArrives (moment : Moment) : RequestKind.Statement (.lineClaimArrives moment) := by rintro r ⟨⟩
theorem RequestKind.lineClaimWithdrawn : RequestKind.Statement .lineClaimWithdrawn := by rintro r ⟨⟩
theorem RequestKind.drainEnd : RequestKind.Statement .drainEnd := by rintro r ⟨⟩
theorem RequestKind.offerReceived (port : PortId) (src dst : Byte) (body : OfferBody) : RequestKind.Statement (.offerReceived port src dst body) := by rintro r ⟨⟩
theorem RequestKind.acceptReceived (port : PortId) (src dst : Byte) (body : AcceptBody) : RequestKind.Statement (.acceptReceived port src dst body) := by rintro r ⟨⟩
theorem RequestKind.refuseReceived (port : PortId) (src dst : Byte) (car : CarNumber) (reason : Byte) : RequestKind.Statement (.refuseReceived port src dst car reason) := by rintro r ⟨⟩
theorem RequestKind.doneReceived (port : PortId) (src dst : Byte) (car : CarNumber) : RequestKind.Statement (.doneReceived port src dst car) := by rintro r ⟨⟩
theorem RequestKind.cancelReceived (port : PortId) (src dst : Byte) (car : CarNumber) : RequestKind.Statement (.cancelReceived port src dst car) := by rintro r ⟨⟩
theorem RequestKind.passReceived (port : PortId) (src dst hop : Byte) (body : PassBody) : RequestKind.Statement (.passReceived port src dst hop body) := by rintro r ⟨⟩
theorem RequestKind.chainBadFrame (port : PortId) : RequestKind.Statement (.chainBadFrame port) := by rintro r ⟨⟩
theorem RequestKind.portUp (port : PortId) : RequestKind.Statement (.portUp port) := by rintro r ⟨⟩
theorem RequestKind.portDown (port : PortId) (receiving : Bool) : RequestKind.Statement (.portDown port receiving) := by rintro r ⟨⟩
theorem RequestKind.chainFrameSent (port : PortId) : RequestKind.Statement (.chainFrameSent port) := by rintro r ⟨⟩
theorem RequestKind.quietTimerTick : RequestKind.Statement .quietTimerTick := by rintro r ⟨⟩
theorem RequestKind.resetAsserted : RequestKind.Statement .resetAsserted := by rintro r ⟨⟩

end Sys2Proof.Laws
end

