-- ==== Sys2Proof/Laws/Pool.lean ====
section
/-!
SUPPORT. What giving a number can do (R90, R102).
-/
namespace Sys2Proof.Machine

theorem numberAt_zero {top n : Nat} (h : 1 ≤ n) (h' : n ≤ top) : numberAt top n 0 = n := by
  simp only [numberAt, Nat.add_zero, Nat.mod_eq_of_lt (show n - 1 < top by omega)]
  omega

/-- The number after a number is the next place from it (R90). -/
theorem numberAt_after {top n : Nat} (h : 1 ≤ n) (h' : n ≤ top) (d : Nat) :
    numberAt top (numberAfter top n) d = numberAt top n (d + 1) := by
  unfold numberAt numberAfter
  split
  · rw [show n + 1 - 1 + d = n - 1 + (d + 1) by omega]
  · rw [show n - 1 + (d + 1) = d + top by omega, Nat.add_mod_right]
    simp

/-- The number given is the first, counting upward and wrapping, that is not in use; only when every number tried was in use is it
the one after them (R90). -/
theorem firstUnused_place {top : Nat} (used : List Nat) (tries : Nat) : ∀ {n : Nat}, 1 ≤ n → n ≤ top →
    ∃ d ≤ tries, firstUnused top used tries n = numberAt top n d ∧ (∀ c < d, numberAt top n c ∈ used) ∧
      (d < tries → numberAt top n d ∉ used) := by
  induction tries with
  | zero => exact fun h h' => ⟨0, le_rfl, (numberAt_zero h h').symm, by simp, by simp⟩
  | succ k ih =>
    intro n h h'
    by_cases hn : n ∈ used
    · obtain ⟨d, hd, heq, hbefore, hfree⟩ := ih (n := numberAfter top n)
        (by unfold numberAfter; split <;> omega) (by unfold numberAfter; split <;> omega)
      simp only [numberAt_after h h'] at heq hbefore hfree
      refine ⟨d + 1, by omega, by simp [firstUnused, hn, heq], fun c hc => ?_, fun hlt => hfree (by omega)⟩
      cases c with
      | zero => rwa [numberAt_zero h h']
      | succ c => exact hbefore c (by omega)
    · exact ⟨0, by omega, by simp [firstUnused, hn, numberAt_zero h h'], by simp, fun _ => by rwa [numberAt_zero h h']⟩

end Sys2Proof.Machine
end

