-- ==== Sys2Proof/Laws/Serve.lean ====
section
/-!
SUPPORT. What it is for a command to reach the part: nothing is due, the command is had in the state as it stands; a request
row that is the next to be taken is marked, answered, and has its effect.
-/
namespace Sys2Proof.Machine

theorem finishBroadcast_of_not_spent {s : State} (h : s.broadcastSpent = false) : finishBroadcast s = s := by
  unfold finishBroadcast
  unfold State.broadcastSpent at h
  split
  · rfl
  · rename_i b bs hb
    rw [hb] at h
    have hr : b.repeats ≠ 0 := by simpa using h
    simp [hr]

theorem settle_of_quiescent {s : State} (h : s.Quiescent) : settle s = s := by
  simp only [settle, finishBroadcast_of_not_spent h.noBroadcast, h.noRound]
  rfl

theorem onEvent_of_quiescent {s : State} (f : State → State) (h : s.Quiescent) : onEvent f s = .next (f s) := by
  simp [onEvent, h.running, settle_of_quiescent h]

theorem onRoundStart_of_not_spent {s : State} (f : State → State) (hr : s.inReset = false) (hb : s.broadcastSpent = false) :
    onRoundStart f s = .next (f s) := by
  simp [onRoundStart, hr, finishBroadcast_of_not_spent hb]

theorem onEvent_inReset {s : State} (f : State → State) (h : s.inReset = true) : onEvent f s = .next s := by simp [onEvent, h]

theorem onRoundStart_inReset {s : State} (f : State → State) (h : s.inReset = true) : onRoundStart f s = .next s := by
  simp [onRoundStart, h]

/-- Whether a body spells a row does not depend on the moment. -/
theorem readRequest_isSome (m m' : Moment) (kind tag : Byte) (body : List Byte) :
    (readRequest m kind tag body).isSome = (readRequest m' kind tag body).isSome := by
  unfold readRequest
  split <;> rfl

/-- A sound request row is not answered BAD_REQUEST. -/
theorem badRequestFrame_of_sound {c : Instr} (hr : (requestOf c).isSome = true) (h : soundRequest c = true) :
    badRequestFrame (rowRequest c) = false := by
  obtain ⟨r, hc⟩ := Option.isSome_iff_exists.mp hr
  simp only [soundRequest, hc, Bool.and_eq_true, bne_iff_ne, decide_eq_true_eq, beq_iff_eq] at h
  obtain ⟨⟨ht, _⟩, hs⟩ := h
  have hsome := readRequest_isSome ⟨0, [], []⟩ (momentOf c) r.kind r.tag r.body
  rw [hs] at hsome
  simp only [badRequestFrame, rowRequest, hc, Option.getD_some]
  have ht' : (r.tag == 0) = false := by simpa using ht
  rw [ht', Bool.false_or, ← Option.not_isSome, hsome]
  rfl

/-- The one thing a request row that is taken does: its reply joins the reply queue, then its effect is had. -/
theorem onRequest_of_takes {s : State} {c : Instr} (d : State → Decision) (h : s.Takes c) :
    onRequest c d s = .next ((d s).effect (s.answered c (d s).status (d s).body)) := by
  rw [onRequest, onEvent_of_quiescent _ h.quiescent]
  simp only [serve, h.next, if_true, takeRequest, badRequestFrame_of_sound h.request h.spelled]
  rfl

/-! ### The replies outstanding (R164, R165, R169) -/

/-- A reply made joins the replies not yet sent, at their end, wherever the transmitter stands. -/
theorem outstanding_reply (k : ControlLink) (r : Reply) : (ControlLink.reply r k).outstanding = k.outstanding ++ [r] := by
  unfold ControlLink.reply ControlLink.kick ControlLink.outstanding
  cases k.line with
  | some f => cases f <;> simp
  | none => cases k.replies <;> simp

/-- What making a reply never touches. -/
theorem reply_frame (k : ControlLink) (r : Reply) :
    (ControlLink.reply r k).buffer = k.buffer ∧ (ControlLink.reply r k).busy = k.busy ∧
    (ControlLink.reply r k).notices = k.notices ∧ (ControlLink.reply r k).restarting = k.restarting ∧ (ControlLink.reply r k).receiver = k.receiver := by
  unfold ControlLink.reply ControlLink.kick
  cases k.line with
  | some f => cases f <;> simp
  | none => cases k.replies <;> simp

/-- Several replies made one after another, and what they never touch. -/
theorem replies_spec (rs : List Reply) (k : ControlLink) :
    let k' := rs.foldl (fun c r => ControlLink.reply r c) k
    k'.outstanding = k.outstanding ++ rs ∧ k'.buffer = k.buffer ∧ k'.busy = k.busy ∧ k'.notices = k.notices ∧
    k'.restarting = k.restarting ∧ k'.receiver = k.receiver := by
  induction rs generalizing k with
  | nil => simp
  | cons r rs ih =>
    obtain ⟨a, b, c, d, e, f⟩ := ih (ControlLink.reply r k)
    obtain ⟨fb, fc, fd, fe, ff⟩ := reply_frame k r
    exact ⟨by rw [List.foldl_cons, a, outstanding_reply, List.append_assoc]; rfl, b.trans fb, c.trans fc, d.trans fd,
      e.trans fe, f.trans ff⟩

/-- Marking the oldest request not yet taken keeps the requests themselves. -/
theorem markTaken_requests (bs : List BufferedRequest) :
    (markTaken bs).map BufferedRequest.request = bs.map BufferedRequest.request := by
  induction bs with
  | nil => rfl
  | cons b bs ih => simp only [markTaken]; split <;> simp [ih]

/-! ### The lines (R128, R129, R162) -/

/-- A receiver that is inside a frame after a byte was inside it before, or could start one. -/
theorem take_inside (f : Framing) (m : Bool) (b : LineByte) (r : Receiver) (h : (r.take f m b).1 ≠ .hunting) :
    r ≠ .hunting ∨ m = true := by
  cases r with
  | inside bs => exact .inl (by simp)
  | hunting =>
    right
    simp only [Receiver.take] at h
    split at h
    · next hm => exact hm.2
    · exact absurd rfl h

/-- All that an arrival changes: the receiver of its line, and the queue of waiting commands, which only grows. -/
theorem takeArrival_frame (a : Arrival) (s : State) : ∃ c u d more, takeArrival a s = { s with
    control := { s.control with receiver := c }
    ports := { up := { s.ports.up with receiver := u }, down := { s.ports.down with receiver := d } }
    pending := s.pending ++ more } := by
  cases a with
  | command c => exact ⟨_, _, _, [c], rfl⟩
  | byte l b =>
    simp only [takeArrival, receiveByte]
    split
    · exact ⟨s.control.receiver, s.ports.up.receiver, s.ports.down.receiver, [], by simp⟩
    · cases l with
      | control => exact ⟨_, s.ports.up.receiver, s.ports.down.receiver, _, rfl⟩
      | chain p =>
        cases p
        · exact ⟨s.control.receiver, _, s.ports.down.receiver, _, by simp only [chainByte, List.append_assoc]; rfl⟩
        · exact ⟨s.control.receiver, s.ports.up.receiver, _, _, by simp only [chainByte, List.append_assoc]; rfl⟩

end Sys2Proof.Machine
end

