-- ==== Sys2Proof/Tests/Slice0.lean ====
section
/-!
SUPPORT. Tests: the refusals of `Instr.wellFormed`, the spec's worked examples, and for every statement a state and operands that
meet its hypotheses. Expected results are the spec's own figures or worked by hand from its rules.
-/
namespace Sys2Proof.Tests
open Sys2Proof Sys2Proof.Machine

set_option Elab.async false

/-! ### Helpers -/

def after (c : Instr) (s : State) : State := match exec c s with | .next t => t | _ => s

/-- A state whose one buffered request is that of a row, the transmitter idle. -/
def asked (c : Instr) (s : State) : State :=
  { s with control := { s.control with line := none, replies := [], notices := [], busy := []
                                       buffer := [{ request := rowRequest c, taken := false }] } }

/-- The status and the body of the reply on the line once a row's request is taken. -/
def reply (c : Instr) (s : State) : Option (Status × List Byte) :=
  match (after c (asked c s)).control.line with
  | some (.reply r) => some (r.status, r.body)
  | _ => none

def notices (c : Instr) (s : State) : List Notice := (after c s).control.notices

theorem quiescent_of {s : State} (h : (!s.inReset && !s.roundDue && !s.broadcastSpent) = true) : s.Quiescent := by
  simp only [Bool.and_eq_true, Bool.not_eq_true'] at h
  exact ⟨h.1.1, h.1.2, h.2⟩

def takesNow (c : Instr) (s : State) : Bool :=
  !s.inReset && !s.roundDue && !s.broadcastSpent && (requestOf c).isSome && soundRequest c
    && decide (s.control.waiting = some (rowRequest c))

theorem takes_of {s : State} {c : Instr} (h : takesNow c s = true) : s.Takes c := by
  simp only [takesNow, Bool.and_eq_true, Bool.not_eq_true', decide_eq_true_eq] at h
  exact ⟨⟨h.1.1.1.1.1, h.1.1.1.1.2, h.1.1.1.2⟩, h.1.1.2, h.1.2, h.2⟩

/-- The settings of the worked fit case (1.4), at node 5 between nodes 7 and 8. -/
def cfg : Settings :=
  { Settings.default with
    node := { node := 5, channel := 4, upNeighbour := 7, downNeighbour := 8, portal := .up, autostart := false }
    round := { period := 2100, g1 := 100, g2 := 100, joinSlots := 2, pd := 6, mode := .free } }

def base : State :=
  { State.reset with
    image := cfg, live := cfg.liveGroups
    control := { State.reset.control with line := some (.notice .storeDone) } }

theorem starts_of {s : State} (h : (!s.inReset && s.roundDue && !s.broadcastSpent) = true) : s.StartsRound := by
  simp only [Bool.and_eq_true, Bool.not_eq_true'] at h
  exact ⟨h.1.1, h.1.2, h.2⟩

def windowNow (s : State) (ago : Fin 3) (k : Fin 24) (p : Position) : Bool :=
  !s.inReset && !s.roundDue && !s.broadcastSpent && decide ((s.engine.planOf ago).positions[k.val]? = some p) && !p.closed

theorem windowDue_of {s : State} {ago : Fin 3} {k : Fin 24} {p : Position} (h : windowNow s ago k p = true) :
    s.WindowDue ago k p := by
  simp only [windowNow, Bool.and_eq_true, Bool.not_eq_true', decide_eq_true_eq] at h
  exact ⟨⟨h.1.1.1.1, h.1.1.1.2, h.1.1.2⟩, h.1.2, h.2⟩

theorem hears_of {p : Position} {bytes : List Byte} {b : Burst}
    (h : (!p.stale && decide (Burst.read bytes = some b) && decide (b.car = p.car)) = true) : p.Hears bytes b := by
  simp only [Bool.and_eq_true, Bool.not_eq_true', decide_eq_true_eq] at h
  exact ⟨h.1.1, h.1.2, h.2⟩

def car (n : Nat) (x : EntryState) (k : RateClass) : Entry :=
  { Entry.vacant with
    state := x, car := BitVec.ofNat 24 n, granted := 8, cls := some k, wanted := some k, score := 100 }

/-- One entry in each state: PENDING at 5, the rest slotted. -/
def yard : State :=
  ((((((base.slotIn 0 (car 1 .active .b)).slotIn 1 (car 2 .joining .a)).slotIn 2
    { car 3 .offering .b with peer := some 7, phaseTimer := some 1 }).slotIn 3
    { car 4 .moving .c with peer := some 8, phaseTimer := some 1, target := some ⟨9, 6, .b⟩ }).slotIn 4
    { car 5 .arriving .b with peer := some 7, phaseTimer := some 1 }).setEntry 5
    { Entry.vacant with state := .pending, car := 6, requested := 8, joinSample := 120, confirmTimer := 1 })

/-- A round in progress over the yard, its radio silent. -/
def onAir : State :=
  { yard with engine := { yard.engine with state := .running, round := 6, inProgress := true, plan := buildPlan yard 6 false } }

/-- The yard with a round start due. -/
def due : State := { yard with engine := { yard.engine with state := .running, round := 6 } }

def up (s : State) : State := (s.updatePort .up fun x => { x with isUp := true }).updatePort .down fun x => { x with isUp := true }

def burst (n seq : Nat) (kind len : Nat) (payload : List Byte) : List Byte :=
  withCheck (carBytes (BitVec.ofNat 24 n) ++ [byteOf seq, byteOf kind, byteOf len, 0, 0] ++ payload)

/-! ### What nothing can bring is refused -/

theorem test_refuses_long_frame : (Instr.requestReceived 1 1 (List.replicate 299 0)).wellFormed = false := by decide +kernel
theorem test_refuses_sound_bad_request : (Instr.badRequest 1 1 []).wellFormed = false := by decide +kernel
theorem test_refuses_late_moment : (Instr.lineClaimArrives ⟨40001, [], []⟩).wellFormed = false := by decide +kernel
theorem test_refuses_late_quiet : (Instr.quiet 1 1 ⟨40001, [], []⟩).wellFormed = false := by decide +kernel
theorem test_refuses_tag_0 : (Instr.status 0).wellFormed = false := by decide +kernel
theorem test_refuses_short_set : (Instr.set 1 5 [4]).wellFormed = false := by decide +kernel
theorem test_refuses_long_payload : (Instr.send 1 1 5 (List.replicate 300 0) 0 0).wellFormed = false := by decide +kernel
theorem test_refuses_car_0_bar : (Instr.barExpiry 0).wellFormed = false := by decide +kernel
theorem test_refuses_command_0 : (Instr.commandExpiry 0).wellFormed = false := by decide +kernel
theorem test_refuses_unchecked_burst :
    (Instr.uplinkWindowClose 0 0 (.passed 1 0 (List.replicate 12 0))).wellFormed = false := by decide +kernel
theorem test_refuses_short_burst : (Instr.uplinkWindowClose 0 0 (.passed 1 0 (withCheck [1, 0, 0]))).wellFormed = false := by
  decide +kernel
theorem test_refuses_long_join :
    (Instr.joinWindowClose 0 0 (.passed (withCheck (List.replicate 73 0)))).wellFormed = false := by decide +kernel
theorem test_refuses_empty_pass : (Instr.passReceived .up 7 0 0 ⟨1, 1, 1, 0, 0, 0, []⟩).wellFormed = false := by decide +kernel
theorem test_accepts_burst :
    (Instr.uplinkWindowClose 0 0 (.passed 1 0 (burst 1 3 5 2 [9, 9]))).wellFormed = true := by decide +kernel
theorem test_accepts_set : (Instr.set 1 5 [4, 0]).wellFormed = true := by decide +kernel

/-! ### Bytes and frames (R1, 12) -/

/-- The check value of this register (start 0xFFFF, x^16 + x^12 + x^5 + 1, not inverted) over "123456789" is 0x29B1. -/
theorem test_check_word : checkWord [0x31, 0x32, 0x33, 0x34, 0x35, 0x36, 0x37, 0x38, 0x39] = 0x29B1#16 := by decide +kernel

/-- STATUS with tag 12: sync 0xC3, L = 2 low byte first, kind 1, tag 12, check word (12.3). -/
theorem test_control_frame : (controlFrameBytes 1 12 []).take 5 = [0xC3, 2, 0, 1, 12] := by decide +kernel

/-- A CANCEL: sync 0xA7, length 7, kind 4, source 5, destination 7, hop 0, car 0x030201 low byte first (12.2). -/
theorem test_chain_frame :
    (chainFrameBytes ⟨5, 7, 0, .cancel 0x030201⟩).take 9 = [0xA7, 7, 4, 5, 7, 0, 1, 2, 3] := by decide +kernel

/-- The header bytes of a burst, low byte first: car, sequence and ack, kind and flags, length, neighbour (12.1). -/
theorem test_burst_header :
    ((Burst.read (withCheck [1, 2, 0, 0x53, 0xC5, 2, 7, 40, 0xAA, 0xBB])).map fun b =>
      ([b.car.toNat, b.seq.toNat, b.dlAck.toNat, b.kind, b.length, b.nbrNode.toNat, b.nbrMargin] ++ b.payload.map BitVec.toNat,
        b.dlAckValid, b.nbrValid)) =
      some ([513, 3, 5, 5, 2, 7, 40, 0xAA, 0xBB], true, true) := by decide +kernel

/-- The beacon is 114 bytes and a PLAN of 24 positions needs L = 305 (log 16). -/
theorem test_beacon_length : (beaconBytes 5 true false 1 [] [] none).length = 114 := by decide +kernel

/-- No row of the table has bits, so no word spells a command. -/
theorem test_no_word_spells_a_command : decodeTableWord 16 0xFFFF = none ∧ State.reset.withFetchWord 16 1 = State.reset := by
  decide +kernel

/-! ### Resets (10.4, 11.4) -/

theorem test_full_reset_of_reset :
    after (.fullReset .power ⟨false, false⟩ false) State.reset = State.reset := by decide +kernel

/-- With QUIET_REQ asserted and autostart on, the part restarts RUNNING and SILENT, READY first of its notices (R148, R178). -/
theorem test_autostart_when_quiet :
    let s := { base with
      image := { cfg with node := { cfg.node with autostart := true } }
      control := { base.control with line := none, restarting := true } }
    let t := after (.restartTakesEffect true) s
    t.engine.state = .running ∧ t.quiet.state = .silent ∧ t.control.line = some (.notice (.ready .restart .defaults)) ∧
    t.control.notices = [.quietBegin true false] := by decide +kernel

theorem test_reset_asserted : (after .resetAsserted onAir).inReset = true ∧ (after .resetAsserted onAir).quiet.ack = false := by
  decide +kernel

theorem test_restart_keeps_settings :
    let s := { base with control := { base.control with line := none, restarting := true } }
    (after (.restartTakesEffect false) s).image = cfg ∧
    (after (.restartTakesEffect false) s).control.line = some (.notice (.ready .restart .defaults)) := by decide +kernel

/-! ### Invariants hold of a state in the middle of a round -/

theorem witness_StepRunsFrontCommand : State.reset.pending = [] ∧ State.reset.arrivals = [] := ⟨rfl, rfl⟩

theorem witness_StepKeepsOrderTable : onAir.OrderExact ∧ step { onAir with pending := [.roundComplete] } = .next (after .roundComplete onAir) :=
  ⟨by unfold State.OrderExact; decide +kernel, rfl⟩

theorem witness_StepKeepsRoundFits : onAir.RoundFits :=
  ⟨by unfold State.OrderExact; decide +kernel, by unfold State.AirtimeFits; decide +kernel⟩

theorem witness_StepKeepsCarsDistinct : onAir.CarsDistinct := by unfold State.CarsDistinct; decide +kernel

theorem witness_StepKeepsPlanServed : onAir.PlanServed :=
  ⟨by unfold State.OrderExact; decide +kernel, by unfold State.FreeVacant; decide +kernel,
    by unfold State.Serves; decide +kernel, by unfold State.Serves; decide +kernel, by unfold State.Serves; decide +kernel⟩

theorem witness_StepKeepsHandoverFields : ((∀ i : Index, (onAir.entry i).HandoverFields) ∧ onAir.PeersNeighbours) ∧
    onAir.CandidatesAllowed ∧ State.reset.CandidatesAllowed :=
  ⟨⟨by unfold Entry.HandoverFields; decide +kernel, by
    have h : ∀ i : Index, (onAir.entry i).peer = none ∨ (onAir.entry i).peer = some 7 ∨ (onAir.entry i).peer = some 8 := by
      decide +kernel
    intro i n hn
    rcases h i with h | h | h
    · simp [h] at hn
    · rw [h] at hn; cases hn; decide +kernel
    · rw [h] at hn; cases hn; decide +kernel⟩, fun h => absurd h (by decide +kernel), fun _ _ => by decide +kernel⟩

theorem witness_StepKeepsQuietSound : onAir.QuietSound := by constructor <;> decide +kernel

theorem witness_StepKeepsControlAccounted : (after (.status 1) (asked (.status 1) onAir)).control.Accounted := by
  constructor <;> decide +kernel

theorem witness_StepKeepsRecordStore : onAir.RecordStoreHeld :=
  ⟨fun q => ⟨by revert q; decide +kernel, by revert q; decide +kernel, by revert q; decide +kernel, by revert q; decide +kernel⟩,
    by decide +kernel⟩

theorem witness_StepKeepsCommandPool :
    let known : Command := { newCommand 65535 5 [1] 0 1 with seqUsed := some 7, sent := true }
    let u := onAir.updateEntry 0 fun e => { e with commands := [known, newCommand 1 5 [2] 0 0] }
    let s := { u.withPlan (u.engine.plan.updateAt 0 fun q => { q with started := true, sent := .command 65535 }) with
      broadcasts := [⟨255, [1], 1⟩, ⟨1, [2], 2⟩], nextCommand := 2, nextBroadcast := 2 }
    s.PoolHeld ∧ s.NumbersHeld := by
  constructor <;> constructor <;> decide +kernel

theorem witness_StepKeepsListsAndPorts : onAir.ListsHeld ∧ (up onAir).ports.up.Held ∧ (up onAir).ports.down.Held := by
  refine ⟨by constructor <;> decide +kernel, ?_, ?_⟩ <;>
    (constructor <;> first | decide +kernel | (constructor <;> decide +kernel))

/-! ### Encodings -/

theorem witness_RequestsReadBack :
    (let c := Instr.send 1 16777215 60 (List.replicate 255 7) 65535 1
     (requestOf c).isSome = true ∧ bodyFits c) ∧ (List.replicate 298 (0 : Byte)).length ≤ maxBody :=
  ⟨⟨by decide +kernel, by unfold bodyFits; decide +kernel⟩, by decide +kernel⟩

/-- A whole frame written out, and the command that it is (12.3, R162). -/
theorem test_control_frame_read : controlCommand (controlFrameBytes 0x14 9 [3]).tail = .requestReceived 0x14 9 [3] := by
  decide +kernel

theorem witness_ChainFrameReadsBack :
    sendable ⟨5, 0, 31, .pass ⟨5, 1, 5, 6, 7, 0, List.replicate 64 1⟩⟩ ∧ sendable ⟨5, 7, 0, .done 1⟩ := by
  unfold sendable; decide +kernel

theorem test_chain_frame_read :
    chainCommand .up (chainFrameBytes ⟨7, 5, 0, .accept ⟨1, 3, 6, 1⟩⟩).tail = .acceptReceived .up 7 5 ⟨1, 3, 6, 1⟩ := by
  decide +kernel

theorem default_valid : Settings.default.Valid :=
  ⟨fun g => by cases g <;> decide +kernel, by decide +kernel, by decide +kernel, by decide +kernel⟩

def decideAllows : ∀ (g : Group) (k v : Nat), Decidable (g.allows k v) := fun g k v => by
  cases g <;> unfold Group.allows <;> dsimp only <;> repeat' first | infer_instance | split

/-- 255 is above the range of demote, 0 to 254, and 254 is in it (R171). -/
theorem test_allows : ¬ Group.link.allows 0 255 ∧ Group.link.allows 0 254 := by simp [Group.allows]

theorem allowed_of {g : Group} {vs : List Nat} (h : (vs.zipIdx.all fun p => @decide (g.allows p.2 p.1) (decideAllows g p.2 p.1)) = true) :
    ∀ k v, vs[k]? = some v → g.allows k v := fun k v hk =>
  @of_decide_eq_true _ (decideAllows g k v) (List.all_eq_true.1 h (v, k) (List.mk_mem_zipIdx_iff_getElem?.2 hk))

theorem narrow_of {g : Group} {vs : List Nat} (h : (vs.zipIdx.all fun p => decide (p.1 < 256 ^ g.width p.2)) = true) :
    ∀ k v, vs[k]? = some v → v < 256 ^ g.width k := fun k v hk =>
  of_decide_eq_true (List.all_eq_true.1 h (v, k) (List.mk_mem_zipIdx_iff_getElem?.2 hk))

theorem witness_SavedImageIsLoaded :
    let j : SaveJob := { copy := Settings.default.pageBytes, erasing := false, offset := 0, failed := 0 }
    let s := { base with store := { base.store with job := some j } }
    let vs := fun i : Settings => fun g => i.values g
    let link := fun d : Nat => { Settings.default with link := { Settings.default.link with demote := d } }
    (Settings.default.Valid ∧ s.inReset = false ∧ s.store.job = some j) ∧
    (0 : Half) ≠ checkWord [1, 0] ∧ [(2 : Byte), 0] ≠ [1, 0] ∧
    (∀ d ∈ [254, 255], ∀ g, (vs (link d) g).length = g.count) ∧
    (∀ g k v, (vs (link 255) g)[k]? = some v → v < 256 ^ g.width k) ∧ (∃ g k v, (vs (link 255) g)[k]? = some v ∧ ¬ g.allows k v) ∧
    (∀ g k v, (vs (link 254) g)[k]? = some v → g.allows k v) ∧ ∃ g k, (link 254).crossFailure g = some k :=
  ⟨⟨default_valid, rfl, rfl⟩, by decide +kernel, by decide +kernel,
    fun d hd g => by revert d; cases g <;> decide +kernel, fun g => narrow_of (by cases g <;> decide +kernel),
    ⟨.link, 0, 255, by decide +kernel, test_allows.1⟩, fun g => allowed_of (by cases g <;> decide +kernel), ⟨.link, 1, by decide +kernel⟩⟩

/-- A page with format number 2, and one whose demote is not below its promote, do not load (R177). -/
theorem test_bad_pages :
    loadPage (withCheck (halfBytes 2 ++ Settings.default.imageBytes)) = none ∧
    loadPage { Settings.default with link := { Settings.default.link with demote := 254 } }.pageBytes = none := by
  constructor <;> unfold loadPage <;> refine if_neg fun h => ?_
  · exact absurd h.2.2.1 (by decide +kernel)
  · exact absurd h.2.2.2.2 (by decide +kernel)

/-! ### The three lines (R128, R129, R162) -/

def heard (bytes : List Byte) : List LineByte := bytes.map fun v => { value := v, stop := true }

def receiving (r : List LineByte) : State := { base with control := { base.control with receiver := .inside r } }

def portReceiving (r : List LineByte) : State := base.updatePort .down fun x => { x with receiver := .inside r }

def onLine (l : Line) (bs : List LineByte) (s : State) : State := bs.foldl (fun t b => receiveByte l b t) s

theorem witness_BytesBecomeFrames :
    (after .resetAsserted base).inReset = true ∧ base.inReset = false ∧
    (base.control.receiver = .hunting ∧ base.control.busy.length < 8 ∧ base.control.restarting = false) ∧
    (receiving (heard [0xC3])).control.receiver = .inside (heard [0xC3]) ∧
    (receiving (heard [0xC3, 45])).control.receiver = .inside (heard [0xC3, 45]) ∧
    (receiving (heard [0xC3, 44, 1, 2])).control.receiver = .inside (heard [0xC3, 44, 1, 2]) ∧ 2 ≤ 44 + 256 * 1 ∧ 44 + 256 * 1 ≤ 300 ∧
    (base.port .up).receiver = .hunting ∧ (up base).inReset = false ∧ ((up base).port .up).isUp = true ∧
    ((portReceiving (heard [0xA7])).port .down).receiver = .inside (heard [0xA7]) ∧
    ((portReceiving (heard [0xA7, 78, 6])).port .down).receiver = .inside (heard [0xA7, 78, 6]) ∧
    sendable ⟨5, 7, 0, .done 1⟩ := by
  unfold sendable; decide +kernel

/-- Noise, then STATUS with tag 12: the bytes before 0xC3 are discarded, and the frame is the next command. -/
theorem test_bytes_become_request :
    let t := onLine .control (heard (0x11 :: controlFrameBytes 1 12 [])) base
    t.pending = [.requestReceived 1 12 []] ∧
    (after (.requestReceived 1 12 []) t).control.receiver = .hunting := by decide +kernel
/-- A length of 301 ends the frame, and one of 300 does not; a bad stop bit makes a whole frame bad. -/
theorem test_bad_control_bytes :
    (onLine .control (heard [0xC3, 45, 1]) base).pending = [.controlBadFrame] ∧
    (onLine .control (heard [0xC3, 44, 1]) base).pending = [] ∧
    (onLine .control (⟨0xC3, false⟩ :: heard ((controlFrameBytes 1 12 []).tail)) base).pending = [.controlBadFrame] := by decide +kernel
/-- No byte with a good stop bit: the bad frame is counted and the port stays DOWN (R128, R129). -/
theorem test_unheard_bad_frame :
    let t := onLine (.chain .down) [⟨0xA7, false⟩, ⟨3, false⟩] base
    t.pending = [.chainBadFrame .down] ∧
    (let u := after (.chainBadFrame .down) t
     u.ports.down.isUp = false ∧ u.ports.down.receiver = .hunting ∧ u.ports.down.counters.bad = 1) := by decide +kernel
theorem test_bytes_become_frame :
    (onLine (.chain .up) (heard (chainFrameBytes ⟨7, 5, 0, .cancel 5⟩)) (up base)).pending = [.cancelReceived .up 7 5 5] ∧
    (onLine (.chain .up) (heard [0xA7]) base).pending = [.portUp .up] := by decide +kernel
/-- The next byte on a line is taken when no command waits. -/
theorem test_step_takes_byte :
    step { base with arrivals := [.byte .control ⟨0xC3, true⟩] } = .next (receiving (heard [0xC3])) := rfl
/-- Fill between frames, nothing in reset (R127). -/
theorem test_fill : base.portSends .up = [0x55] ∧ (after .resetAsserted base).portSends .up = [] := by decide +kernel

/-! ### RESTART and reset -/

theorem witness_RestartRuns :
    (asked (.restart 1) base).Takes (.restart 1) ∧
    (let s := { base with store := { base.store with state := .saving } }
     (asked (.restart 1) s).Takes (.restart 1) ∧ (asked (.restart 1) s).store.state = .saving) ∧
    (let s := { base with control := { base.control with line := none, restarting := true } }
     s.Quiescent ∧ s.control.restartReady = true) ∧ base.Quiescent ∧ base.control.restartReady = false :=
  ⟨takes_of (by decide +kernel), ⟨takes_of (by decide +kernel), rfl⟩, ⟨quiescent_of (by decide +kernel), by decide +kernel⟩,
    quiescent_of (by decide +kernel), by decide +kernel⟩

theorem witness_ResetHoldsPart : (after .resetAsserted onAir).inReset = true ∧ Instr.roundComplete ≠ .resetAsserted ∧
    ∀ cause straps q, Instr.roundComplete ≠ .fullReset cause straps q :=
  ⟨by decide +kernel, by decide +kernel, fun _ _ _ h => by cases h⟩

/-! ### The control link -/

def full (n m : Nat) : State :=
  { base with control := { base.control with
      buffer := List.replicate n { request := ⟨1, 1, []⟩, taken := true }
      busy := List.replicate m ⟨1, 2⟩ } }

/-- A RESTART under way while a frame is being received. -/
def restarting (n m : Nat) (r : Receiver) : State :=
  { full n m with control := { (full n m).control with restarting := true, receiver := r } }

theorem witness_ReceivedFramesSorted :
    (∀ s ∈ [full 3 7, full 4 7, full 4 8, restarting 2 7 (.inside (heard [0xC3, 2])), restarting 2 0 .hunting], s.Quiescent) ∧
    (let k := (full 3 7).control
     k.restarting = false ∧ k.busy.length < 8 ∧ k.buffer.length < 4) ∧
    (let k := (full 4 7).control
     k.restarting = false ∧ k.busy.length < 8 ∧ 4 ≤ k.buffer.length) ∧
    (let k := (full 4 8).control
     k.receiver = .hunting ∧ 8 ≤ k.busy.length) ∧
    (let k := (restarting 2 7 (.inside (heard [0xC3, 2]))).control
     k.receiver ≠ .hunting ∧ k.restarting = true ∧ k.busy.length < 8) ∧
    (restarting 2 0 .hunting).control.receiver = .hunting ∧ (restarting 2 0 .hunting).control.restarting = true :=
  ⟨fun s hs => quiescent_of (by revert s; decide +kernel), by decide +kernel⟩

/-- Step 1 of R169: the frame under way at a RESTART is answered BUSY, one that would start after it is lost. -/
theorem test_frames_at_a_restart :
    (after (.requestReceived 1 9 []) (restarting 2 0 (.inside (heard [0xC3])))).control.busy = [⟨1, 9⟩] ∧
    after (.requestReceived 1 9 []) (restarting 2 0 .hunting) = restarting 2 0 .hunting := by decide +kernel

theorem test_control_gap_timeout : (after .controlGapTimeout (full 0 7)).control.badFrames = 1 := by decide +kernel
theorem test_control_bad_frame : (after .controlBadFrame (full 0 8)).control.badFrames = 0 := by decide +kernel

/-- Six requests in a row (10.3): tag 15 finds the buffer full of taken requests and goes to the busy list. -/
theorem test_tag_15_refused :
    let t := after (.requestReceived 1 15 []) (full 4 0)
    t.control.busy = [⟨1, 15⟩] ∧ t.control.buffer.length = 4 ∧ t.control.replies = [⟨0x81, 15, .busy, [], true⟩] := by
  decide +kernel

theorem witness_RequestsArriveAndAnswer :
    (let r : Request := { kind := 0x40, tag := 3, body := [] }
     let s := { base with control := { base.control with buffer := [{ request := r, taken := false }] } }
     s.Quiescent ∧ badRequestFrame r = true ∧ s.control.waiting = some r) ∧
    base.Quiescent ∧ (requestOf (.stop 1)).isSome = true ∧ soundRequest (.stop 1) = true ∧ base.control.restarting = false ∧
    base.control.busy.length < 8 ∧ base.control.buffer.length < 4 ∧ base.control.waiting = none :=
  ⟨⟨quiescent_of (by decide +kernel), by decide +kernel⟩, quiescent_of (by decide +kernel), by decide +kernel⟩

theorem test_bad_request :
    (after (.badRequest 0x40 3 []) { base with control := { base.control with line := none } }).control.line =
      some (.reply ⟨0x80, 3, .badRequest, [], false⟩) := by decide +kernel

theorem witness_ReadingRequestsOnlyReply :
    (∀ c ∈ [Instr.status 1, .plan 1, .roster 1 0 23, .roster 1 0 24, .roster 1 1 0, .roster 1 2 0, .counts 1 0 255,
      .counts 1 1 23, .counts 1 1 24, .counts 1 2 0], (asked c onAir).Takes c) := by
  intro c hc
  exact takes_of (by revert c; decide +kernel)

/-- STATUS of the yard in a round: RUNNING, round 6, OPEN, one entry in each state and 18 FREE (R168, R180). -/
theorem test_status : (reply (.status 1) onAir).map (fun r => r.2.take 17) =
    some [1, 6, 0, 0, 0, 0, 0, 0, 0, 0, 18, 1, 1, 1, 1, 1, 1] := by decide +kernel

/-- The plan of the yard: 340 is its first start, at class B with D 46 and U 58 (1.6, R26). -/
theorem test_plan : (reply (.plan 1) onAir).map (fun r => (r.2.drop 5).take 13) =
    some [5, 0, 1, 0, 0, 1, 84, 1, 46, 0, 58, 0, 0] := by decide +kernel

theorem test_roster_refused : reply (.roster 1 0 24) onAir = some (.badValue, []) := by decide +kernel
theorem test_counts_of_car : (reply (.counts 1 1 0) onAir).map (fun r => r.2.take 6) = some [1, 0, 3, 1, 0, 0] := by decide +kernel

theorem witness_FrameSentTakesNext : base.Quiescent ∧ base.control.line = some (.notice .storeDone) :=
  ⟨quiescent_of (by decide +kernel), rfl⟩

/-- A notice that leaves while notices were lost makes NOTICES_LOST at the tail (R166). -/
theorem test_notices_lost :
    (after .controlFrameSent { base with control := { base.control with
      notices := [.storeDone, .broadcastDone 1], noticesLost := 3 } }).control.notices = [.broadcastDone 1, .noticesLost 3] := by
  decide +kernel

/-! ### Settings and store -/

/-- SETs that meet each line of R172: unknown group, wrong engine state, a field out of range (promote 0), a failed condition
(promote not above demote), NO_AIRTIME (P 1,000 with the yard slotted), NO_ROOM, and one accepted. -/
theorem witness_SetDecidedByTable :
    ((asked (.set 1 9 []) base).Takes (.set 1 9 []) ∧ (asked (.set 1 5 [15, 255]) onAir).Takes (.set 1 5 [15, 255])) ∧
    (asked (.set 1 6 [0]) onAir).mayChange .queues = false ∧
    firstBadField Group.link.fields (splitFields Group.link.fields [64, 0, 8, 24, 4]) = some 1 ∧
    ((base.image.withValues .link (splitFields Group.link.fields [64, 64, 8, 24, 4])).crossFailure .link = some 1) ∧
    (let i := base.image.withValues .round (splitFields Group.round.fields [232, 3, 100, 0, 100, 0, 2, 6, 0])
     i.round.period < yard.airtimeWith i.round) ∧
    (let i := base.image.withValues .queues (splitFields Group.queues.fields
       [64, 15, 4, 1, 64, 15, 4, 1, 64, 15, 4, 1, 64, 15, 4, 1, 3, 2])
     8192 < i.queues.budget) ∧
    firstBadField Group.link.fields (splitFields Group.link.fields [254, 255, 32, 64, 16]) = none ∧
    (let at_ := fun (n u d : Byte) => { cfg with node := { cfg.node with node := n, upNeighbour := u, downNeighbour := d } }
     [at_ 0 0 0, at_ 5 5 5, at_ 5 5 8, at_ 5 7 5, at_ 0 7 8].map (fun i => i.crossFailure .node) = [none, some 3, some 2, some 3, none]) ∧
    cfg.filter.all (fun e => decide (e.low ≤ e.high)) = true ∧ cfg.link.demote < cfg.link.promote :=
  ⟨⟨takes_of (by decide +kernel), takes_of (by decide +kernel)⟩, by decide +kernel⟩

/-- The first filter entry whose kind low is above its kind high is entry 2, whose kind high is field 12 (R76). -/
theorem test_filter_cross :
    let e : FilterEntry := { enable := true, low := 5, high := 5, car := 0, dest := .discard }
    ({ cfg with filter := [e, e, { e with low := 6 }, { e with low := 7 }] }).crossFailure .filter = some 12 := by decide

theorem test_set_wrong_state :
    reply (.set 1 1 [232, 3, 100, 0, 100, 0, 2, 6, 0]) onAir = some (.badState, []) := by decide +kernel
theorem test_set_no_airtime :
    reply (.set 1 1 [232, 3, 100, 0, 100, 0, 2, 6, 0]) yard = some (.noAirtime, []) := by decide +kernel

theorem witness_SetOfRoundAndQueues :
    let r : List Byte := [16, 39, 100, 0, 100, 0, 2, 5, 0]
    let q : List Byte := [4, 8, 3, 1, 16, 15, 0, 1, 32, 8, 8, 1, 16, 8, 8, 1, 3, 2]
    (asked (.set 1 1 r) yard).Takes (.set 1 1 r) ∧ (asked (.set 1 6 q) yard).Takes (.set 1 6 q) ∧ yard.engine.state = .stopped ∧
    firstBadField Group.round.fields (splitFields Group.round.fields r) = none ∧
    (let i := yard.image.withValues .round (splitFields Group.round.fields r)
     yard.airtimeWith i.round ≤ i.round.period ∧ codeBytes i.round.pd < codeBytes yard.image.round.pd) ∧
    firstBadField Group.queues.fields (splitFields Group.queues.fields q) = none ∧
    (yard.image.withValues .queues (splitFields Group.queues.fields q)).queues.budget ≤ 8192 :=
  ⟨takes_of (by decide +kernel), takes_of (by decide +kernel), by decide +kernel⟩

/-- R101: Pd lowered from code 6, 12 bytes, to code 5, 10 bytes, removes the command of 12 bytes and keeps the one of 10. -/
theorem test_lower_pd :
    let k := fun n m : Nat => (⟨BitVec.ofNat 16 n, 5, List.replicate m 1, 0, 0, 0, none, false, true⟩ : Command)
    let s := yard.updateEntry 0 fun e => { e with commands := [k 1 12, k 2 10] }
    let c := Instr.set 1 1 [16, 39, 100, 0, 100, 0, 2, 5, 0]
    notices c (asked c s) = [.undelivered 1 1 .tooLong false] ∧ ((after c (asked c s)).entry 0).commands = [k 2 10] := by
  decide +kernel

/-- A SET of NODE that leaves no neighbour clears the candidates (R59); one that fails both spanning conditions names 3 (log 33). -/
theorem test_set_node :
    let s := ({ base with image := { cfg with node := { cfg.node with upNeighbour := 0, downNeighbour := 0, portal := .self } } })
    let t := ({ base with control := s.control }).slotIn 0 { car 1 .active .b with candidate := some 7, nbrScore := 90, leadCount := 2 }
    let c := Instr.set 1 0 ((joinFields Group.node.fields (s.image.values .node)))
    (let e := (after c (asked c t)).entry 0
     reply c t = some (.ok, []) ∧ e.candidate = none ∧ e.nbrScore = 0 ∧ e.leadCount = 0) ∧
    Settings.crossFailure { cfg with node := { cfg.node with upNeighbour := 5, downNeighbour := 5 } } .node = some 3 := by
  decide +kernel

theorem witness_GetReturnsImage :
    (asked (.get 1 0) base).Takes (.get 1 0) ∧ (asked (.get 1 8) base).Takes (.get 1 8) ∧
    Group.ofCode 8 = some .pattern ∧ (asked (.get 1 9) base).Takes (.get 1 9) ∧ Group.ofCode 9 = none :=
  ⟨takes_of (by decide +kernel), takes_of (by decide +kernel), rfl, takes_of (by decide +kernel), rfl⟩

/-- DOWNLINK at its defaults: retry limit 4, pacing 0, in force (R171, R173). -/
theorem test_get : reply (.get 1 5) base = some (.ok, [4, 0, 0]) := by decide +kernel

def saving (offset failed : Nat) (erasing : Bool) : State :=
  { base with store := { base.store with
      state := .saving, job := some { copy := [1, 2, 3], erasing := erasing, offset := offset, failed := failed } } }

theorem witness_SaveRunsItsSteps :
    (asked (.save 1) base).Takes (.save 1) ∧ (asked (.save 1) (saving 0 0 true)).Takes (.save 1) ∧
    (saving 0 0 true).Quiescent ∧ (saving 2 3 false).Quiescent ∧
    (saving 1 2 false).store.job = some { copy := [1, 2, 3], erasing := false, offset := 1, failed := 2 } :=
  ⟨takes_of (by decide +kernel), takes_of (by decide +kernel), quiescent_of (by decide +kernel), quiescent_of (by decide +kernel),
    rfl⟩

theorem test_save_ends : (after (.saveByteProgrammed 3) (saving 2 3 false)).store.state = .valid ∧
    (after (.saveByteProgrammed 3) (saving 2 3 false)).store.page = [1, 2, 3] := by decide +kernel
theorem test_fourth_program_fails : (after (.saveByteProgrammed 0) (saving 2 3 false)).store.state = .invalid ∧
    notices (.saveByteProgrammed 0) (saving 2 3 false) = [.storeFault 2] := by decide +kernel
theorem test_save : (after (.save 1) (asked (.save 1) base)).store.state = .saving := by decide +kernel
theorem test_erase_done : (after .saveEraseDone (saving 0 0 true)).store.job = (saving 0 0 false).store.job := by decide +kernel

/-! ### The round engine -/

def inState (x : EngineState) (q : QuietState) (s : State) : State :=
  { s with engine := { s.engine with state := x, inProgress := (q == .opened) && (x == .running || x == .stepping || x == .stopping) }
           quiet := { s.quiet with state := q, hostClaim := q == .silent, ack := q == .silent } }

theorem witness_EngineRequestsDecided :
    (∀ c ∈ [Instr.start 1, .stop 1, .stepRound 1], ∀ x ∈ [EngineState.stopped, .running, .stopping, .paused, .stepping],
      ∀ q ∈ [QuietState.opened, .silent], (asked c (inState x q yard)).Takes c) ∧
    (asked (.start 1) State.reset).Takes (.start 1) ∧ State.reset.image.node.node = 0 := by
  refine ⟨fun c hc x hx q hq => takes_of ?_, takes_of (by decide +kernel), rfl⟩
  revert c x q
  decide +kernel

theorem test_start_unconfigured : reply (.start 1) State.reset = some (.unconfigured, []) := by decide +kernel
theorem test_start : (after (.start 1) (asked (.start 1) yard)).engine.state = .running := by decide +kernel
theorem test_stop : (after (.stop 1) (asked (.stop 1) onAir)).engine.state = .stopping := by decide +kernel
theorem test_stop_paused : (after (.stop 1) (asked (.stop 1) (inState .paused .opened yard))).control.notices = [.stopped 0] := by
  decide +kernel
theorem test_step_not_open : reply (.stepRound 1) (inState .paused .silent yard) = some (.badState, []) := by decide +kernel
theorem test_step : (after (.stepRound 1) (asked (.stepRound 1) (inState .paused .opened yard))).engine.state = .stepping := by
  decide +kernel

theorem witness_RoundStartBuildsPlan : due.StartsRound ∧ due.engine.round ≠ 0xFFFFFFFF#32 :=
  ⟨starts_of (by decide +kernel), by decide +kernel⟩

/-- Order table 3, 0, 7 at classes B, A and C, with 16 bytes each: starts 340, 454 and 522, join slots at 728 (1.6). -/
def reading : State :=
  let s := ((base.slotIn 3 (car 13 .active .b)).slotIn 0 (car 10 .active .a)).slotIn 7 (car 17 .active .c)
  { s with engine := { s.engine with state := .running, resumePending := true } }

theorem test_reading_a_plan :
    let p := (after .roundStart reading).engine.plan
    (p.positions.map fun q => [q.index.val, q.start, q.d, q.u, q.slot]) =
      [[3, 340, 46, 58, 114], [0, 454, 26, 32, 68], [7, 522, 86, 110, 206]] ∧ p.joinStart = 728 := by decide +kernel

/-- The first round after START is round 1 and a grace round with RESUME; the grace count is then the setting, 2 (R21, R43). -/
theorem test_first_round :
    let t := after .roundStart reading
    t.engine.round = 1 ∧ t.engine.plan.grace = true ∧ t.grace = 2 ∧ (t.engine.radio.map fun b => b.bytes.take 4) = some [5, 1, 1, 0] := by
  decide +kernel

theorem witness_RoundStartCounts : reading.StartsRound ∧
    ∀ i : Index, (reading.entry i).phaseRunsOut = false ∧ (reading.entry i).confirmRunsOut = false :=
  ⟨starts_of (by decide +kernel), by decide +kernel⟩

/-- The worked fit case (1.4): 14 entries, 0 to 7 at B and 8 to 13 at A; entries 2, 5 and 7 want C. -/
def fit : State :=
  (List.range 14).foldl (fun s n => s.slotIn (Fin.ofNat 24 n)
    { car (100 + n) .active (if n < 8 then .b else .a) with
      wanted := some (if n = 2 ∨ n = 5 ∨ n = 7 then .c else if n < 8 then .b else .a) }) base

theorem test_fit_case_airtime : fit.airtime = 1920 ∧ fit.freeAirtime = 180 := by decide +kernel

theorem test_fit_case_round_r :
    let t := classChanges fit
    t.airtime = 2012 ∧ (t.entry 2).cls = some .c ∧ (t.entry 5).cls = some .b ∧ (t.entry 5).rateHeld = true ∧
    t.control.notices = [.rateChanged 102 .b .c, .rateHeld 105 .b .c, .rateHeld 107 .b .c] := by decide +kernel

/-- Round start r + 1: entry 6 wants A, so that entry 5 fits and entry 7 does not, without a second notice. -/
theorem test_fit_case_next_round :
    let s := classChanges fit
    let t := classChanges { s.updateEntry 6 (fun e => { e with wanted := some .a }) with control := fit.control }
    t.airtime = 2058 ∧ (t.entry 5).rateHeld = false ∧ (t.entry 7).rateHeld = true ∧
    t.control.notices = [.rateChanged 106 .b .a, .rateChanged 105 .b .c] := by decide +kernel

theorem witness_ClassChangesObeyFitRule : fit.order.Nodup ∧ fit.order = [0, 1] ++ 2 :: fit.order.drop 3 ∧
    (fit.entry 2).wantedRate.slowerThan (fit.entry 2).rate = true := by decide +kernel

def command (n : Nat) (expiry age : Nat) (q : Option Seq) : Command :=
  { number := BitVec.ofNat 16 n, kind := 5, payload := [1, 2], expiry := expiry, age := age, attempts := 0, seqUsed := q
    sent := q.isSome, notify := true }

/-- A round start due over the yard, with a bar, two commands of car 1 and a broadcast. -/
def rows : State :=
  { due.updateEntry 0 (fun e => { e with commands := [command 302 4 3 none, command 303 0 9 none] }) with
    bars := [⟨50, 1⟩, ⟨51, 2⟩], broadcasts := [⟨3, [1], 1⟩] }

theorem witness_RoundStartRows :
    rows.StartsRound ∧ (rows.entry 2).phaseTimer = some 1 ∧ (rows.entry 2).state = .offering ∧ (rows.entry 3).state = .moving ∧
    (rows.entry 4).state = .arriving ∧ (rows.entry 5).state = .pending ∧ (rows.entry 5).confirmTimer ≤ 1 ∧
    (∃ b ∈ rows.bars, b.car = 50 ∧ b.rounds ≤ 1) ∧ (∀ b ∈ rows.bars, b.car = 51 → 1 < b.rounds) ∧
    (∀ i : Index, ∀ k ∈ (rows.entry i).commands, k.number ≠ 7) ∧
    (∀ j : Index, ∀ c ∈ (rows.entry j).commands, c.number = 302 → j = 0 ∧ c = command 302 4 3 none) ∧
    (onAir.inReset = false ∧ onAir.engine.inProgress = true ∧ onAir.broadcasts = []) :=
  ⟨starts_of (by decide +kernel), by decide +kernel⟩

theorem test_offer_expiry :
    ((after (.offerTimerExpiry 2) rows).entry 2).state = .active ∧
    notices (.offerTimerExpiry 2) rows = [.handoverRefused 3 2 7 .noAnswer] := by decide +kernel
theorem test_move_expiry : notices (.moveTimerExpiry 3) rows = [.handoverLost 4 3 8 0] := by decide +kernel
theorem test_arrival_expiry : notices (.arrivalTimerExpiry 4) rows = [.arrivalFailed 5 4 7] := by decide +kernel
theorem test_confirm_expiry : notices (.confirmTimerExpiry 5) rows = [.departed 6 5 .confirmTimeout 0] := by decide +kernel
theorem test_bar_expiry : (after (.barExpiry 50) rows).bars = [⟨51, 2⟩] := by decide +kernel
theorem test_command_expiry : notices (.commandExpiry 302) rows = [.expired 302 1 false] := by decide +kernel
/-- Broadcast 3 with 1 repeat is done at its round start (A broadcast overtaken, 5.5). -/
theorem test_broadcast_done :
    (after .broadcastDone (after .roundStart rows)).broadcasts = [] ∧
    .broadcastDone 3 ∈ (after .broadcastDone (after .roundStart rows)).control.notices := by decide +kernel

/-- A spent head broadcast is done in the middle of a round too (R103). -/
theorem test_broadcast_done_on_air :
    let t := after .broadcastDone { onAir with broadcasts := [⟨9, [1], 0⟩, ⟨4, [2], 1⟩] }
    t.broadcasts = [⟨4, [2], 1⟩] ∧ t.control.notices = [.broadcastDone 9] ∧ t.engine = onAir.engine := by decide +kernel

/-- A broadcast spent and no round start due. -/
def spent : State := { base with broadcasts := [⟨3, [1], 0⟩, ⟨4, [2], 1⟩] }

theorem witness_DueWorkComesFirst :
    (due.StartsRound ∧ rows.StartsRound) ∧ waitsForDue .roundComplete = true ∧ due.inReset = false ∧ spent.inReset = false ∧
    spent.broadcasts = ⟨3, [1], 0⟩ :: [⟨4, [2], 1⟩] ∧ (after .roundStart due).broadcastSpent = false ∧
    (after .roundStart rows).broadcasts = [⟨3, [1], 0⟩] :=
  ⟨⟨starts_of (by decide +kernel), starts_of (by decide +kernel)⟩, by decide +kernel⟩

/-- A command taken while a round start is due finds the round begun, and a spent broadcast removed (log 9). -/
theorem test_due_work_first :
    (let e := (after .strayBurst due).engine
     e.round = 7 ∧ e.inProgress = true) ∧ notices .strayBurst spent = [.broadcastDone 3] := by decide +kernel

theorem witness_RoundCompletes :
    (∀ s ∈ [onAir, inState .stopping .opened onAir, inState .stepping .opened onAir, base], s.Quiescent) ∧
    onAir.engine.inProgress = true ∧ onAir.engine.state = .running ∧
    (let e := (inState .stopping .opened onAir).engine
     e.state = .stopping ∧ e.inProgress = true) ∧
    (let e := (inState .stepping .opened onAir).engine
     e.state = .stepping ∧ e.inProgress = true) ∧ base.engine.inProgress = false :=
  ⟨fun s hs => quiescent_of (by revert s; decide +kernel), by decide +kernel⟩

theorem test_round_complete : notices .roundComplete (inState .stepping .opened onAir) = [.roundDone 6 false] := by decide +kernel

/-! ### Slots -/

/-- The yard on the air with commands for car 1, whose next sequence is 7 and whose car was last heard with sequence 6. -/
def served (es : List Command) (pace : Nat) : State :=
  onAir.updateEntry 0 fun e => { e with commands := es, nextSeq := 7, lastSeq := some 6, pace := pace }

def pos (n : Nat) : Position := onAir.engine.plan.positions.getD n (positionAt onAir 0 0)

theorem slotDue_of {s : State} {k : Fin 24} {p : Position} (h : windowNow s 0 k p = true)
    (h' : (s.engine.inProgress && !p.started) = true) : s.SlotDue k p := by
  have w := windowDue_of h
  simp only [Bool.and_eq_true, Bool.not_eq_true'] at h'
  exact ⟨w.quiescent, h'.1, w.position, h'.2, w.yetToClose⟩

theorem witness_SlotCarriesSegment :
    (∀ s ∈ [served [] 0, served [command 301 0 0 none] 0, served [command 301 0 0 none] 2, served [command 301 0 0 (some 6)] 0],
      s.SlotDue 0 (pos 0) ∧ s.SlotDue 3 (pos 3)) ∧
    (pos 0).stale = false ∧ (onAir.entry 3).state = .moving ∧ (onAir.entry 3).target = some ⟨9, 6, .b⟩ ∧ (pos 3).index = 3 ∧
    (pos 0).index = 0 ∧ (onAir.entry 0).state ≠ .moving ∧ (onAir.entry 0).survey = false :=
  ⟨fun s hs => ⟨slotDue_of (by revert s; decide +kernel) (by revert s; decide +kernel),
    slotDue_of (by revert s; decide +kernel) (by revert s; decide +kernel)⟩, by decide +kernel⟩

/-- A command sent anew takes the next sequence, 7, and advances it to 8 (one car's commands, 5.3). -/
theorem test_command_sent :
    let t := after (.slotStart 0) (served [command 301 0 0 none] 0)
    (t.entry 0).nextSeq = 8 ∧ ((t.entry 0).commands.map fun k => k.seqUsed) = [some 7] ∧
    (t.engine.radio.map fun b => (b.bytes.take 6, b.begins, b.ends)) = some ([1, 0, 0, 0x45, 2, 0x67], 340, 366) := by
  decide +kernel

/-- The MOVE directive: peer 8, channel 6, index 9, class B; kind 62 without an ack (R111, 12.1). -/
theorem test_move_directive :
    ((after (.slotStart 3) onAir).engine.radio.map fun b => (b.bytes.take 10).drop 3) = some [62, 4, 0, 8, 6, 9, 1] := by
  decide +kernel

/-! ### Uplink windows -/

def win (c : Nat) (seq kind len : Nat) (payload : List Byte) : Instr :=
  .uplinkWindowClose 0 0 (.passed 50 3 (burst c seq kind len payload))

/-- The plan of the round two rounds ago, its windows still open (log 18). -/
def lateOn (s : State) : State :=
  { s with engine := { s.engine with
      older := s.engine.plan, prev := Plan.empty, plan := Plan.empty, round := s.engine.round + 2 } }

def staled (s : State) : State := { s with engine := { s.engine with plan := s.engine.plan.markStale 0 } }

theorem witness_WindowsCounted :
    (onAir.Quiescent ∧ onAir.WindowDue 0 0 (pos 0) ∧ (lateOn onAir).WindowDue 2 0 (pos 0)) ∧
    ((staled onAir).WindowDue 0 0 { pos 0 with stale := true } ∧
      (lateOn (staled onAir)).WindowDue 2 0 { pos 0 with stale := true }) ∧
    (pos 0).stale = false ∧ (Burst.read (burst 1 3 5 2 [9, 9])).isSome = true ∧
    (∀ ago : Fin 3, ∀ p, (onAir.engine.planOf ago).positions[23]? = some p → p.closed = true) ∧
    onAir.engine.plan.grace = false ∧ (onAir.entry 0).state.charged = true ∧ (onAir.entry 0).missed + 1 < onAir.live.roster.missLimit :=
  ⟨⟨quiescent_of (by decide +kernel), windowDue_of (by decide +kernel), windowDue_of (by decide +kernel)⟩,
    ⟨windowDue_of (by decide +kernel), windowDue_of (by decide +kernel)⟩, by decide +kernel⟩

theorem test_stray_burst : after .strayBurst onAir = onAir := by decide +kernel
theorem test_wrong_car : (after (win 2 3 5 2 [9, 9]) onAir).counters.wrongCar = 1 := by decide +kernel

def missing (m : Nat) (x : EntryState) : State := onAir.updateEntry 0 fun e => { e with missed := m, state := x, peer := some 7 }

/-- The failed check is counted in the entry's own counter, which an entry freed by the same close loses (R48, R150). -/
theorem test_car_counters :
    (((after (.uplinkWindowClose 0 0 .checkFailed) (missing 6 .active)).entry 0).failed = 1 ∧
      ((after (.uplinkWindowClose 0 0 .checkFailed) (missing 6 .moving)).entry 0).failed = 1 ∧
      ((after (.uplinkWindowClose 0 0 .checkFailed) (missing 7 .offering)).entry 0).failed = 0) ∧
    (let e := (after (win 1 3 5 2 [9, 9]) onAir).entry 0
     e.good = 1 ∧ e.corrected = 1 ∧ e.failed = 0) := by decide +kernel

theorem witness_MissedWindowCharged :
    ((∀ s ∈ [missing 6 .active, missing 7 .offering], s.WindowDue 0 0 (pos 0) ∧ (lateOn s).WindowDue 2 0 (pos 0))) ∧
    (pos 0).stale = false ∧
    (missing 6 .active).engine.plan.grace = false ∧ ((missing 6 .active).entry 0).missed + 1 < onAir.live.roster.missLimit ∧
    onAir.live.roster.missLimit ≤ ((missing 7 .offering).entry 0).missed + 1 ∧ EntryState.moving.charged = false :=
  ⟨fun s hs => ⟨windowDue_of (by revert s; decide +kernel), windowDue_of (by revert s; decide +kernel)⟩, by decide +kernel⟩

/-- 100 − ⌊107 / 8⌋ = 87 after a missed window (R54). -/
theorem test_missed_window :
    let e := (after (.uplinkWindowClose 0 0 .nothing) (missing 6 .active)).entry 0
    e.missed = 7 ∧ e.score = 87 := by decide +kernel
theorem test_miss_limit :
    notices (.uplinkWindowClose 0 0 .nothing) (missing 7 .offering) = [.departed 1 0 .silent 0] := by decide +kernel

/-- The score table of 3.2. -/
theorem test_score_table :
    [moveScore 120 176, moveScore 127 0, moveScore 3 0, moveScore 1 0, moveScore 0 0, moveScore 250 252, moveScore 251 252] =
      [127, 111, 2, 0, 0, 251, 252] := by decide

/-- A promotion, round by round (3.3): class B, score 150, promote rounds 3, samples of 240. -/
theorem test_promotion_run :
    let l := { cfg.link with promoteRounds := 3 }
    let go := fun e : Entry => (e.updateScore 240).propose l
    let e0 := { car 1 .active .b with score := 150 }
    [(go e0), go (go e0), go (go (go e0))].map (fun e => (e.score, e.upCount, e.wanted)) =
      [(162, 1, some .b), (172, 2, some .b), (181, 0, some .a)] := by decide

theorem witness_ClassProposedFromScore : cfg.link.demote < cfg.link.promote ∧ 160 ≤ 160 ∧ 7 + 1 ≤ cfg.link.promoteRounds := by decide

theorem witness_HeardWindowRenews :
    (onAir.WindowDue 0 1 (pos 1) ∧ (lateOn onAir).WindowDue 2 1 (pos 1) ∧ onAir.WindowDue 0 4 (pos 4)) ∧
    (∃ b, (pos 1).Hears (burst 2 3 5 0 []) b) ∧ ∃ b, (pos 4).Hears (burst 5 3 5 2 [1, 2]) b :=
  ⟨⟨windowDue_of (by decide +kernel), windowDue_of (by decide +kernel), windowDue_of (by decide +kernel)⟩,
    ⟨_, by decide +kernel, rfl, by decide +kernel⟩, ⟨_, by decide +kernel, rfl, by decide +kernel⟩⟩

/-- A burst that ends two rounds after its own: JOINED, last heard in round 6, its own (R24, log 18). -/
theorem test_late_window :
    let c := Instr.uplinkWindowClose 2 1 (.passed 30 0 (burst 2 3 5 0 []))
    notices c (lateOn onAir) = [.joined 2 1 .a 8] ∧ ((after c (lateOn onAir)).entry 1).lastHeard = 6 ∧
    after c (after c (lateOn onAir)) = after c (lateOn onAir) := by decide +kernel

/-- A JOINING car's first heard window: JOINED with its class and code (R42). -/
theorem test_joined :
    notices (.uplinkWindowClose 0 1 (.passed 30 0 (burst 2 3 5 0 []))) onAir = [.joined 2 1 .a 8] := by decide +kernel
/-- An ARRIVING car's first heard window sends DONE toward its former peer and ARRIVED (R118). -/
theorem test_arrived :
    let t := after (.uplinkWindowClose 0 4 (.passed 30 0 (burst 5 3 5 0 []))) (up onAir)
    t.ports.up.line = some ⟨5, 7, 0, .done 5⟩ ∧ t.control.notices = [.arrived 5 4 7 .b 8] := by decide +kernel

/-- Round 7 of the handover trigger (3.4): S = 92, N = 173, and the fourth lead starts the handover toward node 7. -/
def leading : State :=
  (up onAir).updateEntry 0 fun e => { e with score := 97, candidate := some 7, nbrScore := 166, leadCount := 3 }

def leadBurst : Burst :=
  { car := 1, seq := 0, dlAck := 0, kind := 5, dlAckValid := false, nbrValid := true, length := 0, nbrNode := 7, nbrMargin := 55
    payload := [] }

/-- The burst of `leadBurst` as it is received: report valid, node 7, margin 55 (12.1). -/
def leadBytes : List Byte := withCheck [1, 0, 0, 0, 0x85, 0, 7, 55]

theorem held_of {x : Port} (h : decide (x.handover.length ≤ 8 ∧ x.passAlong.length ≤ 16) = true)
    (h' : decide ((x.isUp = false → x.handover = [] ∧ x.passAlong = []) ∧ (x.line = none → x.handover = [] ∧ x.passAlong = [])) = true)
    (hc : x.counters.InRange) : x.Held := by
  have h := of_decide_eq_true h
  have h' := of_decide_eq_true h'
  exact ⟨h.1, h.2, h'.1, h'.2, hc⟩

theorem witness_LeadStartsHandover :
    (leading.WindowDue 0 0 (pos 0) ∧ (pos 0).Hears leadBytes leadBurst ∧ leading.ports.up.Held ∧ leading.ports.down.Held) ∧
    (leading.entry 0).state = .active ∧ leadBurst.nbrValid = true ∧ leading.portFacing leadBurst.nbrNode = some .up ∧
    (leading.entry 0).candidate = some leadBurst.nbrNode ∧ leading.live.handover.enable = true ∧ leading.canOffer .up = true ∧
    (onAir.entry 0).candidate = none ∧ onAir.canOffer .up = false ∧ leading.live.link.leadRounds ≤ (leading.entry 0).leadCount + 1 ∧
    leading.portFacing 9 = none :=
  ⟨⟨windowDue_of (by decide +kernel), hears_of (by decide +kernel), held_of (by decide +kernel) (by decide +kernel)
      (by constructor <;> decide +kernel), held_of (by decide +kernel) (by decide +kernel) (by constructor <;> decide +kernel)⟩,
    by decide +kernel⟩

/-- A report of another configured neighbour makes it the candidate afresh; one of no neighbour clears the candidate (R60). -/
theorem test_new_candidate :
    let t := after (.uplinkWindowClose 0 0 (.passed 15 0 (withCheck [1, 0, 0, 0, 0x85, 0, 8, 40]))) leading
    let u := after (.uplinkWindowClose 0 0 (.passed 15 0 (withCheck [1, 0, 0, 0, 0x85, 0, 9, 40]))) leading
    ((t.entry 0).candidate = some 8 ∧ (t.entry 0).nbrScore = 160 ∧ (t.entry 0).leadCount = 1) ∧
    ((u.entry 0).candidate = none ∧ (u.entry 0).nbrScore = 0 ∧ (u.entry 0).leadCount = 0) := by decide +kernel

theorem test_handover_trigger :
    let t := assessWindow 0 (some (leadBurst, 15, 0)) leading
    (t.entry 0).score = 92 ∧ (t.entry 0).nbrScore = 173 ∧ (t.entry 0).state = .offering ∧ (t.entry 0).leadCount = 0 ∧
    (t.ports.up.line.map fun f => f.body) = some (.offer ⟨1, 1, 8, 0, 173, 0xFF, 0⟩) := by decide +kernel

/-- Queue 1 at depth 4, storage 16 bytes, threshold 3/8; a filter entry sends kind 5 there (4.4). -/
def faults (n : Nat) (lost : Nat) (ep : Bool) : State :=
  let s := { onAir with image := { onAir.image with
    filter := { enable := true, low := 5, high := 5, car := 0, dest := .queue 1 } :: onAir.image.filter.drop 1
    queues := { onAir.image.queues with
      queue := onAir.image.queues.queue.set 1 { depth := 4, storage := 8, threshold := 3, notice := true } } } }
  s.setRx 1 { records := List.replicate n (burstRecord 5 6 (pos 0) leadBurst (0, 0)), lost := lost, episode := ep }

def arranged (x : QueueSetting) : State :=
  let s := faults 1 0 false
  { s with image := { s.image with queues := { s.image.queues with queue := s.image.queues.queue.set 1 x } } }

theorem witness_ArrivalsAnnounced :
    (∀ n ∈ [1, 2, 4], ((faults n 0 false).rx 1).records.length = n ∧ ((faults n 0 false).rx 1).episode = false) ∧
    ((faults 4 1 true).rx 1).episode = true ∧
    (let x := (faults 1 0 false).queueSetting 1
     x.depth = 4 ∧ x.notice = true ∧ x.threshold ≠ 0 ∧ (x.depth * x.threshold ≤ 8 * (1 + 1) ∧ 8 * 1 < x.depth * x.threshold) ∧
     ¬ 8 * 2 < x.depth * x.threshold) ∧
    ∀ x ∈ [(⟨4, 8, 0, true⟩ : QueueSetting), ⟨4, 8, 3, false⟩, ⟨0, 8, 3, true⟩], (arranged x).queueSetting 1 = x := by decide +kernel

/-- In EACH mode every arrival is announced (R81). -/
theorem test_each_arrival :
    notices (win 1 3 5 2 [9, 9]) (arranged ⟨8, 8, 0, true⟩) = [.queueReady 1 2] ∧
    notices (win 1 3 5 2 [9, 9]) (arranged ⟨8, 8, 3, false⟩) = [] := by decide +kernel

/-- B arrives second: QUEUE_READY (1, 2); E arrives at a full queue: QUEUE_LOST (1, 1) (4.4). -/
theorem test_queue_ready : notices (win 1 3 5 2 [9, 9]) (faults 1 0 false) = [.queueReady 1 2] := by decide +kernel
theorem test_queue_lost :
    notices (win 1 3 5 2 [9, 9]) (faults 4 0 false) = [.queueLost 1 1] ∧
    notices (win 1 3 5 2 [9, 9]) (faults 4 1 true) = [] := by decide +kernel

/-- Car 1's window after its slot carried command 301 with sequence 7, of retry limit 4. -/
def awaiting (attempts : Nat) : State :=
  let s := onAir.updateEntry 0 fun e => { e with commands := [{ command 301 0 0 (some 7) with attempts := attempts }] }
  s.withPlan (s.engine.plan.updateAt 0 fun q => { q with started := true, sent := .command 301 })

def twoBytes : Burst :=
  { car := 1, seq := 3, dlAck := 0, kind := 5, dlAckValid := false, nbrValid := false, length := 2, nbrNode := 0, nbrMargin := 0
    payload := [9, 9] }

theorem witness_AcceptedBurstRouted :
    let p := { pos 0 with started := true, sent := .command 301 }
    ((faults 3 0 false).WindowDue 0 0 (pos 0) ∧ (faults 4 0 false).WindowDue 0 0 (pos 0) ∧
      (lateOn (faults 3 0 false)).WindowDue 2 0 (pos 0) ∧ (awaiting 2).WindowDue 0 0 p) ∧
    ((pos 0).Hears (burst 1 3 5 2 [9, 9]) twoBytes ∧ p.Hears (burst 1 3 5 2 [9, 9]) twoBytes) ∧
    (onAir.entry 0).Accepts twoBytes ∧ ¬ ((onAir.updateEntry 0 fun e => { e with lastSeq := some 3 }).entry 0).Accepts twoBytes ∧
    (faults 3 0 false).routeOf twoBytes = .queue 1 ∧ (onAir.entry 0).survey = false ∧ (pos 0).sent = .nothing :=
  ⟨⟨windowDue_of (by decide +kernel), windowDue_of (by decide +kernel), windowDue_of (by decide +kernel),
      windowDue_of (by decide +kernel)⟩, ⟨hears_of (by decide +kernel), hears_of (by decide +kernel)⟩,
    by constructor <;> decide +kernel, fun h => h.new (by decide +kernel), by decide +kernel⟩

/-- The same command at the last miss that R44 allows, a second command waiting behind it. -/
def lastMiss (attempts : Nat) : State :=
  (awaiting attempts).updateEntry 0 fun e => { e with missed := 7, commands := e.commands ++ [command 302 0 0 none] }

/-- Command 301 withdrawn after its slot, and its number given to another command before the window closes. -/
def renumbered : State :=
  let w := after (.withdraw 1 301) (asked (.withdraw 1 301) (awaiting 3))
  let c := Instr.send 2 1 5 [1] 0 1
  after c (asked c { w with nextCommand := 301 })

theorem witness_CommandAcknowledged :
    let p := { pos 0 with started := true, sent := .command 301 }
    ((awaiting 2).WindowDue 0 0 p ∧ (awaiting 3).WindowDue 0 0 p ∧ (lateOn (awaiting 2)).WindowDue 2 0 p ∧ (awaiting 2).WindowDue 0 1 (pos 1)) ∧
    (∃ b, p.Hears (burst 1 0x70 0x45 0 []) b ∧ b.dlAckValid = true ∧ b.dlAck = 7) ∧ p.stale = false ∧ p.sent = .command 301 ∧
    { command 301 0 0 (some 7) with attempts := 2 } ∈ ((awaiting 2).entry 0).commands ∧
    (awaiting 2).engine.plan.grace = false ∧ ((awaiting 2).entry 0).missed + 1 < (awaiting 2).live.roster.missLimit ∧
    (Burst.read (burst 2 3 5 0 [])).any (fun b => decide (b.car ≠ p.car)) = true ∧ (lastMiss 3).live.roster.missLimit = 7 + 1 ∧
    (∀ c ∈ ((awaiting 2).entry 0).commands, (pos 1).sent ≠ .command c.number) ∧
    ((lastMiss 3).entry 0).missed = 7 ∧ ((lastMiss 3).entry 0).state.charged = true ∧ (lastMiss 3).live.downlink.retryLimit = 3 + 1 :=
  ⟨⟨windowDue_of (by decide +kernel), windowDue_of (by decide +kernel), windowDue_of (by decide +kernel),
      windowDue_of (by decide +kernel)⟩,
    ⟨_, ⟨by decide +kernel, rfl, by decide +kernel⟩, by decide +kernel⟩, by decide +kernel⟩

/-- The ack of sequence 7 delivers the command at its third send; a fourth failure is NO_ACK (R94, R95). -/
theorem test_delivered : notices (win 1 0x70 0x45 0 []) (awaiting 2) = [.delivered 301 1 3] := by decide +kernel
theorem test_no_ack :
    notices (.uplinkWindowClose 0 0 .checkFailed) (awaiting 3) = [.undelivered 301 1 .noAck true] := by decide +kernel

/-- The window close finds nothing of the command that the slot carried, and leaves the new one as it is (R94, R98). -/
theorem test_number_given_anew :
    let t := after (.uplinkWindowClose 0 0 .checkFailed) renumbered
    ((t.entry 0).commands.map fun k => (k.number, k.attempts, k.sent)) = [(301, 0, false)] ∧
    .undelivered 301 1 .noAck false ∉ t.control.notices ∧ (t.entry 0).missed = 1 := by decide +kernel

/-- A wrong car is a failed send; at the miss limit NO_ACK comes before DEPARTED, and that before the freed list (R72, R95). -/
theorem test_failed_sends :
    ((after (win 2 0x70 0x45 0 []) (awaiting 1)).entry 0).commands.map (fun k => k.attempts) = [2] ∧
    notices (.uplinkWindowClose 0 0 .nothing) (lastMiss 3) =
      [.undelivered 301 1 .noAck true, .departed 1 0 .silent 0, .undelivered 302 1 .departed false] ∧
    notices (.uplinkWindowClose 0 0 .checkFailed) (lastMiss 2) =
      [.departed 1 0 .silent 0, .undelivered 301 1 .departed true, .undelivered 302 1 .departed false] := by decide +kernel

/-! ### Survey (9.4, 9.5) -/

theorem witness_FixedPatternRepeatsBlock :
    let g := { cfg.pattern with kind := .fixed }
    Settings.default.Valid ∧ g.kind = .fixed ∧ 1 ≤ g.block ∧ g.block ≤ g.bytes.length := ⟨default_valid, by decide⟩

theorem witness_BandsPatternFillsLength : cfg.pattern.kind = .bands ∧ 1 ≤ cfg.pattern.bands ∧ 1 ≤ cfg.pattern.bandSize ∧
    cfg.pattern.bands ≤ cfg.pattern.bytes.length := by decide

/-- The table of bands of 9.4. -/
theorem test_bands_table :
    let g := fun n b => { cfg.pattern with bands := n, bandSize := b, bytes := [0, 1, 2, 3, 4, 5, 6, 7, 8, 9, 10, 11] }
    (g 4 6).make 20 = List.replicate 6 0 ++ List.replicate 6 1 ++ List.replicate 6 2 ++ List.replicate 2 3 ∧
    (g 4 6).make 12 = List.replicate 6 0 ++ List.replicate 6 1 ∧ (g 1 3).make 10 = List.replicate 10 0 ∧
    (g 8 8).make 12 = List.replicate 8 0 ++ List.replicate 4 1 := by decide +kernel

/-- Round 701 of the worked survey (9.5): 4 byte errors, 21 bit errors. -/
theorem test_survey_comparison :
    let v : List Byte := [0x5A, 0xC3, 0x0F, 0xF0, 0x5A, 0xC3, 0x0F, 0xF0, 0x5A, 0xC3, 0x0F, 0xF0]
    compareEcho v [0x5A, 0xC3, 0x0E, 0xF0, 0x5A, 0xC3, 0x0F, 0x00, 0x5A, 0xC3] = (4, 21) ∧ compareEcho v [] = (12, 96) := by
  decide +kernel

/-- Car 1 surveyed, its slot's pattern 1, 2, 3, 4 sent. -/
def surveyed : State :=
  let s := onAir.updateEntry 0 fun e => { e with survey := true }
  s.withPlan (s.engine.plan.updateAt 0 fun q => { q with started := true, sent := .pattern [1, 2, 3, 4] })

def echo : Burst := { twoBytes with kind := 63, payload := [1, 3] }

theorem witness_SurveyWindowReported :
    let p := { pos 0 with started := true, sent := .pattern [1, 2, 3, 4] }
    (surveyed.WindowDue 0 0 p ∧ (lateOn surveyed).WindowDue 2 0 p) ∧
    (p.Hears (burst 1 3 63 2 [1, 3]) echo ∧ p.Hears (burst 1 3 5 2 [9, 9]) twoBytes) ∧
    ((surveyed.entry 0).Accepts echo ∧ (surveyed.entry 0).Accepts twoBytes) ∧
    p.stale = false ∧ (surveyed.entry p.index).survey = true ∧ surveyed.routeOf twoBytes = .queue 0 ∧ twoBytes.kind ≠ 63 :=
  ⟨⟨windowDue_of (by decide +kernel), windowDue_of (by decide +kernel)⟩, ⟨hears_of (by decide +kernel), hears_of (by decide +kernel)⟩,
    ⟨by constructor <;> decide +kernel, by constructor <;> decide +kernel⟩, by decide +kernel⟩

/-- The echo 1, 3 of the pattern 1, 2, 3, 4: byte 1 differs in one bit and two bytes are missing: 3 byte errors, 17 bit errors
(R158, R159). -/
theorem test_echo_reported :
    ((after (.uplinkWindowClose 0 0 (.passed 40 1 (burst 1 3 63 2 [1, 3]))) surveyed).queues.toList.flatMap fun x =>
      x.records.map fun r => (r.survey, r.margin, r.corrections, r.payload)) = [(true, 40, 1, [4, 2, 3, 17, 0])] ∧
    ((after (.uplinkWindowClose 0 0 .nothing) surveyed).queues.toList.flatMap fun x =>
      x.records.map fun r => (r.survey, r.margin, r.corrections, r.payload)) = [(true, 0, 0, [4, 0, 4, 32, 0])] := by decide +kernel

/-! ### The car roster -/

/-- The worked join round (2.5): entry 2 FREE, 0, 1, 3 and 4 at B, 5 and 7 at C, the rest at A, two join windows to close. -/
def joining : State :=
  let s := [0, 1, 3, 4, 5, 6, 7, 8, 9, 10, 11, 12, 13].foldl (fun s n => s.slotIn (Fin.ofNat 24 n)
    (car (100 + n) .active (if n = 5 ∨ n = 7 then .c else if n < 5 then .b else .a))) base
  { s with engine := { s.engine with
      state := .running, round := 6, inProgress := true, plan := { Plan.empty with round := 6, joins := [0, 1] } } }

/-- A join burst: kind 62, six bytes of payload: code, beacon margin, car type 1, build 2 (12.1). -/
def joinBytes (n code margin : Nat) : List Byte := burst n 0 62 6 [byteOf code, byteOf margin, 1, 2, 0, 0]

def join (k : Fin 4) (n code margin : Nat) : Instr := .joinWindowClose 0 k (.passed (joinBytes n code margin))

def confirming : State := { joining with live := { joining.live with roster := { joining.live.roster with admission := .confirm } } }

def waitingAnswers (n : Nat) (s : State) : State :=
  { s with answers := (List.range n).map fun k => { car := BitVec.ofNat 24 (900 + k), result := .denial .denied } }

/-- Both results of the worked join round: airtime 2,058 and the answers (40,117, 2, 8, B) and (40,655, NO_AIRTIME). -/
theorem test_join_round :
    let t := after (join 1 40655 12 10) (after (join 0 40117 8 30) joining)
    joining.airtime = 1944 ∧ t.airtime = 2058 ∧ t.order = [0, 1, 3, 4, 5, 6, 7, 8, 9, 10, 11, 12, 13, 2] ∧ (t.entry 2).score = 120 ∧
    t.answers = [⟨40117, .place 2 8 .b⟩, ⟨40655, .denial .noAirtime⟩] ∧ t.counters.joinBursts = 2 := by decide +kernel

theorem test_join_asked : notices (join 0 40117 8 30) confirming = [.joinAsked 40117 2 8 120 1 2] := by decide +kernel

theorem witness_JoinWindowDecided :
    ((∀ s ∈ [joining, confirming, onAir, lateOn joining], s.Quiescent) ∧
      (2 : Fin 4) ∉ joining.engine.plan.joins ∧ (0 : Fin 4) ∈ joining.engine.plan.joins ∧
      (0 : Fin 4) ∈ ((lateOn joining).engine.planOf 2).joins ∧ JoinBody.read (burst 5 0 5 0 []) = none ∧
      (∃ b ∈ [(⟨900, 3⟩ : Bar)], b.car = 900) ∧ (∃ a ∈ (waitingAnswers 1 joining).answers, a.car = 900) ∧
      (∀ a ∈ (waitingAnswers 8 joining).answers, a.car ≠ 899) ∧ 8 ≤ (waitingAnswers 8 joining).answers.length) ∧
    (∀ n ∈ [40117, 100, 1, 3, 4, 5, 6, 900], (JoinBody.read (joinBytes n 8 30)).map (fun j => j.car) = some (BitVec.ofNat 24 n)) ∧
    (joining.bars = [] ∧ joining.answers = [] ∧ (waitingAnswers 7 joining).answers.length = 7) ∧
    joining.findCar 40117 = none ∧ joining.firstFree = some 2 ∧ joining.live.roster.admission = .auto ∧
    confirming.live.roster.admission = .confirm ∧
    (joining.fitsOneMore 8 .b = true ∧ ∀ d : Code, 8 < d.toNat → d.toNat ≤ max (8 : Code).toNat 1 → joining.fitsOneMore d .b = false) ∧
    (∀ code : Code, 1 ≤ code.toNat → code.toNat ≤ max (12 : Code).toNat 1 →
      (after (join 0 40117 8 30) joining).fitsOneMore code .c = false) ∧
    (0 : Fin 4) ∈ onAir.engine.plan.joins ∧
    [1, 2, 3, 4, 5, 6].map (fun n => (onAir.findCar (BitVec.ofNat 24 n)).map fun i => (onAir.entry i).state) =
      [some .active, some .joining, some .offering, some .moving, some .arriving, some .pending] :=
  ⟨⟨fun s hs => quiescent_of (by revert s; decide +kernel), by decide +kernel⟩, by decide +kernel⟩

/-- The join window of a round two rounds ago: the entry was last heard in that round, 6 (log 18). -/
theorem test_late_join :
    let t := after (.joinWindowClose 2 0 (.passed (joinBytes 40117 8 30))) (lateOn joining)
    (t.entry 2).state = .joining ∧ (t.entry 2).lastHeard = 6 ∧ (t.engine.planOf 2).joins = [1] := by decide +kernel

theorem witness_full_roster :
    let s := (List.range 24).foldl (fun s n => s.setEntry (Fin.ofNat 24 n) { Entry.vacant with state := .pending, car := BitVec.ofNat 24 (50 + n) }) base
    s.findCar 40117 = none ∧ s.firstFree = none := by decide +kernel

/-- A join of the MOVING car of entry 3: CANCEL to node 8 on the down port, entry JOINING, its place answered (R35). -/
theorem test_join_abandons_handover :
    let t := after (join 0 4 8 30) (up onAir)
    (t.entry 3).state = .joining ∧ (t.entry 3).peer = none ∧ t.ports.down.line = some ⟨5, 8, 0, .cancel 4⟩ ∧
    t.answers = [⟨4, .place 3 8 .c⟩] := by decide +kernel

theorem witness_AdmitDenyEvictDecided :
    ((∀ n ∈ [0, 1, 6, 9], (asked (.admitCar 1 (BitVec.ofNat 24 n)) yard).Takes (.admitCar 1 (BitVec.ofNat 24 n))) ∧
      ∀ n ∈ [0, 1, 3, 4, 6, 9], (asked (.deny 1 (BitVec.ofNat 24 n) 5) yard).Takes (.deny 1 (BitVec.ofNat 24 n) 5) ∧
        (asked (.evict 1 (BitVec.ofNat 24 n) 5) yard).Takes (.evict 1 (BitVec.ofNat 24 n) 5)) ∧
    [1, 3, 4, 6, 9].map (fun n => yard.findCar (BitVec.ofNat 24 n)) = [some 0, some 2, some 3, some 5, none] ∧
    (yard.entry 5).state = .pending ∧ (yard.entry 0).state ≠ .pending ∧ yard.answers.length < 8 ∧ yard.answerWaits 6 = false ∧
    yard.fitsOneMore 8 .b = true ∧ 8 ≤ (waitingAnswers 8 yard).answers.length ∧
    (let s := { yard with image := { yard.image with round := { yard.image.round with period := 1000 } } }
     ∀ code : Code, 1 ≤ code.toNat → code.toNat ≤ max (s.entry 5).requested.toNat 1 → s.fitsOneMore code .b = false) := by
  refine ⟨⟨fun n hn => takes_of ?_, fun n hn => ⟨takes_of ?_, takes_of ?_⟩⟩, by decide +kernel⟩ <;> (revert n; decide +kernel)

def barred : State := { base with bars := (List.range 8).map fun n => ⟨BitVec.ofNat 24 (50 + n), if n = 2 ∨ n = 5 then 3 else 9⟩ }

theorem witness_AnswersAndBarsAdded :
    (yard.answers.length < 8 ∧ 8 ≤ (waitingAnswers 8 yard).answers.length ∧ ∃ x ∈ (waitingAnswers 1 yard).answers, x.car = 900) ∧
    (∃ pre b post, barred.bars = pre ++ b :: post ∧ b.car = 53 ∧ ∀ x ∈ pre ++ post, x.car ≠ 53) ∧
    (rows.bars.length < 8 ∧ (∀ x ∈ rows.bars, x.car ≠ 53) ∧ 8 ≤ barred.bars.length ∧ ∀ x ∈ barred.bars, x.car ≠ 60) ∧
    ∃ pre b post, barred.bars = pre ++ b :: post ∧ b.rounds ≤ 65535 ∧ (∀ x ∈ pre, b.rounds < x.rounds) ∧
      ∀ x ∈ post, b.rounds ≤ x.rounds :=
  ⟨by decide +kernel, ⟨barred.bars.take 3, ⟨53, 9⟩, barred.bars.drop 4, by decide +kernel⟩, by decide +kernel,
    ⟨barred.bars.take 2, ⟨52, 3⟩, barred.bars.drop 3, by decide +kernel⟩⟩

/-- A bar replaced in place, and the fewest rounds, nearest the head, displaced (R47). -/
theorem test_add_bar :
    ((addBar 53 7 barred).bars.map Bar.rounds) = [9, 9, 3, 7, 9, 3, 9, 9] ∧
    ((addBar 60 1 barred).bars.map fun b => b.car.toNat) = [50, 51, 53, 54, 55, 56, 57, 60] := by decide +kernel

/-- ADMIT answers with the index, the class and the code, and the place waits for the next beacon (R38). -/
theorem test_admit :
    reply (.admitCar 1 6) yard = some (.ok, [5, 1, 8]) ∧ reply (.admitCar 1 9) yard = some (.tooLate, []) := by decide +kernel
theorem test_admit_answers :
    (after (.admitCar 1 6) (asked (.admitCar 1 6) yard)).answers = [⟨6, .place 5 8 .b⟩] := by decide +kernel

theorem test_deny :
    let t := after (.deny 1 6 5) (asked (.deny 1 6 5) yard)
    (t.entry 5).state = .free ∧ t.answers = [⟨6, .denial .denied⟩] ∧ t.bars = [⟨6, 5⟩] := by decide +kernel
/-- EVICT of the OFFERING car of entry 2: freed, out of the order table, CANCEL to node 7 on the up port (R46). -/
theorem test_evict :
    let t := after (.evict 1 3 0) (asked (.evict 1 3 0) (up yard))
    (t.entry 2).state = .free ∧ t.order = [0, 1, 3, 4] ∧ t.bars = [] ∧ t.ports.up.line = some ⟨5, 7, 0, .cancel 3⟩ := by decide +kernel

theorem witness_SetOrderNeedsPermutation :
    (asked (.setOrder 1 [4, 3, 2, 1, 0]) yard).Takes (.setOrder 1 [4, 3, 2, 1, 0]) ∧
    [(4 : Byte), 3, 2, 1, 0] = ([4, 3, 2, 1, 0] : List Index).map (fun i => byteOf i.val) ∧ ([4, 3, 2, 1, 0] : List Index).Perm yard.order ∧
    (asked (.setOrder 1 [24]) yard).Takes (.setOrder 1 [24]) ∧ (asked (.setOrder 1 [0, 1, 2, 3]) yard).Takes (.setOrder 1 [0, 1, 2, 3]) :=
  ⟨takes_of (by decide +kernel), by decide +kernel, by decide +kernel, takes_of (by decide +kernel), takes_of (by decide +kernel)⟩

theorem test_set_order :
    (after (.setOrder 1 [4, 3, 2, 1, 0]) (asked (.setOrder 1 [4, 3, 2, 1, 0]) yard)).order = [4, 3, 2, 1, 0] ∧
    reply (.setOrder 1 [0, 1, 2, 3, 3]) yard = some (.badOrder, []) := by decide +kernel

/-! ### Commands, queues, counters -/

def send (n : Nat) (kind : Byte) (payload : List Byte) : Instr := .send 1 (BitVec.ofNat 24 n) kind payload 0 1

/-- Entry 0 with a full list, the pool holding 64 with 7 more lists of 8. -/
def stuffed (lists : Nat) : State :=
  (List.range lists).foldl (fun s n => s.updateEntry (Fin.ofNat 24 n) fun e =>
    { e with state := .active, car := BitVec.ofNat 24 (n + 1), commands := (List.range 8).map fun k => command (8 * n + k + 1) 0 0 none }) yard

theorem witness_PoolRequestsDecided :
    ((∀ n ∈ [0, 1, 2, 3, 4, 5, 6, 9], (asked (send n 60 [1, 2]) yard).Takes (send n 60 [1, 2])) ∧
      (∀ c ∈ [send 1 61 [], send 1 5 (List.replicate 13 0), .broadcast 1 [] 1 0, .broadcast 1 (List.replicate 12 7) 9 0,
        .broadcast 1 (List.replicate 12 7) 9 1, .broadcast 1 (List.replicate 12 7) 9 2], (asked c yard).Takes c) ∧
      ∀ c ∈ [Instr.withdraw 1 3, .withdraw 1 9], (asked c (stuffed 1)).Takes c) ∧
    codeBytes yard.image.round.pd = 12 ∧ yard.poolCount = 0 ∧ 1 ≤ yard.nextCommand.toNat ∧
    ((stuffed 1).entry 0).commands.length = 8 ∧ (stuffed 1).poolCount = 8 ∧ (stuffed 8).poolCount = 64 ∧
    command 3 0 0 none ∈ ((stuffed 1).entry 0).commands ∧
    (∀ j : Index, ∀ c ∈ ((stuffed 1).entry j).commands, c.number = 3 → j = 0 ∧ c = command 3 0 0 none) ∧
    (∀ i : Index, ∀ k ∈ ((stuffed 1).entry i).commands, k.number ≠ 9) ∧ yard.broadcasts.length < 4 ∧ yard.nextBroadcast ≠ 0 ∧
    (∃ q ∈ (awaiting 2).engine.plan.positions, q.sent = .command 301) ∧ numberAt 65535 65535 1 = 1 ∧ numberAt 255 254 2 = 1 := by
  refine ⟨⟨fun n hn => takes_of ?_, fun c hc => takes_of ?_, fun c hc => takes_of ?_⟩, by decide +kernel⟩
  · revert n; decide +kernel
  · revert c; decide +kernel
  · revert c; decide +kernel

/-- Command numbers 1 to 8 are in use, so the next number 1 gives 9 (R90). -/
theorem test_send :
    reply (send 2 5 [1]) (stuffed 1) = some (.ok, [9, 0]) ∧ reply (send 1 5 [1]) (stuffed 1) = some (.carFull, []) ∧
    reply (send 2 5 [1]) (stuffed 8) = some (.poolFull, []) ∧ reply (send 4 5 [1]) yard = some (.moving, []) := by decide +kernel
theorem test_withdraw : reply (.withdraw 1 3) (stuffed 1) = some (.ok, []) ∧
    ((after (.withdraw 1 3) (asked (.withdraw 1 3) (stuffed 1))).entry 0).commands.length = 7 := by decide +kernel
/-- The urgent broadcast of 5.5 goes to the head; 9 repeats are taken as 8 (R102). -/
theorem test_broadcast :
    let s := { yard with broadcasts := [⟨1, [1], 1⟩, ⟨2, [2], 2⟩], nextBroadcast := 3 }
    (after (.broadcast 1 [3] 9 1) (asked (.broadcast 1 [3] 9 1) s)).broadcasts = [⟨3, [3], 8⟩, ⟨1, [1], 1⟩, ⟨2, [2], 2⟩] := by
  decide +kernel

theorem witness_QueueSurveyAndClearRequests :
    ((∀ q ∈ [(0 : Byte), 1, 3, 4, 255], ∀ c ∈ [Instr.take 1 q 2, .peek 1 q, .flush 1 q], (asked c base).Takes c) ∧
      ∀ c ∈ [Instr.survey 1 0 1, .survey 1 1 1, .survey 1 2 1, .survey 1 9 1, .clearCounts 1 0 23, .clearCounts 1 1 23,
        .clearCounts 1 2 23, .clearCounts 1 3 23, .clearCounts 1 1 24], (asked c yard).Takes c) ∧
    ((faults 4 2 true).rx 1).records.length = 4 ∧ (faults 0 0 false |>.rx 1).records = [] ∧
    (2 ≤ ((faults 4 2 true).rx 1).records.length ∧ 2 ≤ min (max (2 : Byte).toNat 1) 8 ∧
      ((((faults 4 2 true).rx 1).records.take 2).map fun r => 16 + r.payload.length).sum ≤ 293 ∧
      2 = min (max (2 : Byte).toNat 1) 8) := by
  refine ⟨⟨fun q hq c hc => takes_of ?_, fun c hc => takes_of ?_⟩, by decide +kernel⟩
  · revert q c; decide +kernel
  · revert c; decide +kernel

/-- TAKE (1, 2) leaves two records and the lost count 2, and ends the episode (4.4). -/
theorem test_take :
    let t := after (.take 1 1 2) (asked (.take 1 1 2) (faults 4 2 true))
    (t.rx 1).records.length = 2 ∧ (t.rx 1).lost = 2 ∧ (t.rx 1).episode = false ∧
    (reply (.take 1 1 2) (faults 4 2 true)).map (fun r => r.2.take 4) = some [1, 2, 2, 2] := by decide +kernel
theorem test_peek : (reply (.peek 1 1) (faults 4 2 true)).map (fun r => (r.1, r.2.take 4)) = some (.ok, [1, 4, 2, 1]) ∧
    reply (.peek 1 0) base = some (.empty, [0, 0, 0, 0]) := by decide +kernel
theorem test_flush : reply (.flush 1 1) (faults 4 2 true) = some (.ok, [1, 0, 2, 4]) ∧
    (after (.flush 1 1) (asked (.flush 1 1) (faults 4 2 true))).rx 1 = RxQueue.empty := by decide +kernel
theorem test_survey : reply (.survey 1 1 1) yard = some (.ok, []) ∧ reply (.survey 1 2 1) yard = some (.badState, []) := by decide +kernel
theorem test_clear_counts :
    (after (.clearCounts 1 0 0) (asked (.clearCounts 1 0 0) { yard with counters := { yard.counters with stray := 4 } })).counters.stray = 0 := by
  decide +kernel

/-! ### Blast quiet -/

/-- Round 900 of the plan of 1.6, position 1's segment on the air from 454 to 480 (8.6). -/
def shot : State :=
  let s := after .roundStart { reading with engine := { reading.engine with round := 899 } }
  { s with
    control := reading.control
    engine := { s.engine with radio := some { bytes := [], cls := .a, begins := 454, ends := 480 } } }

def claimed (line host : Bool) : State :=
  { base with quiet := { base.quiet with state := .silent, lineClaim := line, hostClaim := host, ack := true, timer := 150 } }

theorem witness_QuietClaimSilences :
    ((∀ s ∈ [base, claimed true false, shot, inState .stepping .opened onAir, inState .stopping .opened onAir, surveyed], s.Quiescent) ∧
      ∀ v ∈ [(0 : Byte), 1, 2], ∀ s ∈ [shot, base, claimed false true, surveyed],
        (asked (.quiet 1 v ⟨470, [], []⟩) s).Takes (.quiet 1 v ⟨470, [], []⟩)) ∧
    shot.quiet.lineClaim = false ∧ shot.quiet.state = .opened ∧ shot.engine.inProgress = true ∧
    (shot.engine.radio.map fun b => b.ends) = some 480 ∧ (inState .stepping .opened onAir).engine.state = .stepping ∧
    (inState .stopping .opened onAir).engine.state = .stopping ∧ surveyed.engine.inProgress = true ∧
    (pos 0).start + (pos 0).d + 5 ≤ 470 := by
  refine ⟨⟨fun s hs => quiescent_of (by revert s; decide +kernel), fun v hv s hs => takes_of ?_⟩, by decide +kernel⟩
  revert v s
  decide +kernel

/-- A claim at 470: the open window of the surveyed car 1 reports no echo, unless a burst has begun in it, and is then the only
one still to close (R23, R142). -/
theorem test_claim_reports_no_echo :
    let records := fun s : State => s.queues.toList.flatMap fun x => x.records.map fun r => (r.survey, r.payload)
    let openOnes := fun s : State => s.engine.plan.positions.map fun p => !p.closed
    let t := after (.lineClaimArrives ⟨470, [], []⟩) surveyed
    let u := after (.lineClaimArrives ⟨470, [0], []⟩) surveyed
    (records t = [(true, [4, 0, 4, 32, 0])] ∧ openOnes t = [false, false, false, false, false]) ∧
    (records u = [] ∧ openOnes u = [true, false, false, false, false]) := by decide +kernel

/-- The shot of 8.6: DRAINING at 470, SILENT with QUIET_BEGIN (line) at the segment's end; the engine stays RUNNING. -/
theorem test_shot :
    let t := after (.lineClaimArrives ⟨470, [], []⟩) shot
    let u := after .drainEnd t
    t.quiet.state = .draining ∧ t.engine.resumePending = true ∧ t.engine.state = .running ∧ t.engine.inProgress = false ∧
    t.control.notices = [] ∧ u.quiet.state = .silent ∧ u.quiet.ack = true ∧ u.control.notices = [.quietBegin true false] := by decide +kernel
/-- A STEPPING engine's abandonment is reported before QUIET_BEGIN (R144). -/
theorem test_claim_pauses_step :
    notices (.lineClaimArrives ⟨400, [], []⟩) (inState .stepping .opened onAir) = [.roundDone 6 true, .quietBegin true false] := by
  decide +kernel

theorem witness_QuietEnds :
    let ending := { inState .running .draining base with quiet := { (claimed true false).quiet with state := .draining } }
    ((∀ s ∈ [claimed true false, claimed true true, base, inState .running .draining base, ending], s.Quiescent) ∧
      ∀ s ∈ [claimed false true, claimed true true, base], (asked (.quiet 1 0 ⟨0, [], []⟩) s).Takes (.quiet 1 0 ⟨0, [], []⟩)) ∧
    (inState .running .draining base).quiet.claimed = false ∧ ending.quiet.claimed = true ∧ ending.quiet.state = .draining :=
  ⟨⟨fun s hs => quiescent_of (by revert s; decide +kernel), fun s hs => takes_of (by revert s; decide +kernel)⟩, by decide +kernel⟩

theorem test_line_claim_withdrawn :
    (after .lineClaimWithdrawn (claimed true true)).quiet.state = .silent ∧
    notices .lineClaimWithdrawn (claimed true false) = [.quietEnd 150] := by decide +kernel
/-- QUIET off at 15.0 s: OPEN, none held, timer 150, QUIET_END (150) (8.6). -/
theorem test_quiet_off :
    reply (.quiet 1 0 ⟨0, [], []⟩) (claimed false true) = some (.ok, [0, 0, 0, 150, 0]) ∧
    notices (.quiet 1 0 ⟨0, [], []⟩) (asked (.quiet 1 0 ⟨0, [], []⟩) (claimed false true)) = [.quietEnd 150] := by decide +kernel
theorem test_quiet_breach : notices (.quietBreach none true) (claimed true false) = [.quietBreach 0 .silent 0] := by decide +kernel
theorem test_quiet_timer_tick : (after .quietTimerTick (claimed true false)).quiet.timer = 151 := by decide +kernel

/-! ### Handover and the chain ports -/

/-- Node 17 of 6.7: three cars at class A, channel 5, the down neighbour node 12, its ports UP. -/
def seventeen : State :=
  let i := { cfg with
    node := { cfg.node with node := 17, channel := 5, upNeighbour := 20, downNeighbour := 12 }
    round := { cfg.round with period := 10000, g1 := 50, g2 := 50 } }
  let s := up ((((({ base with image := i, live := i.liveGroups }).slotIn 0 (car 1 .active .a)).slotIn 1 (car 2 .active .a)).slotIn 2
    (car 3 .active .a)).setEntry 5 { Entry.vacant with state := .pending, car := 6 })
  { s with engine := { s.engine with
      state := .running, round := 5140, inProgress := true, plan := { Plan.empty with round := 5140 } } }

def theOffer : OfferBody := { car := 40117, cls := 1, allowance := 8, survey := 0, score := 173, lastSeq := 6, nextSeq := 10 }

theorem witness_OfferDecided :
    (∀ s ∈ [seventeen, { seventeen with engine := { seventeen.engine with state := .stopped, inProgress := false } }], s.Quiescent) ∧
    seventeen.neighbour .down = 12 ∧ seventeen.image.node.node = 17 ∧
    (theOffer.car ≠ 0 ∧ theOffer.cls = byteOf RateClass.b.code ∧ theOffer.allowance = (8 : Code).zeroExtend 8 ∧ (8 : Code) ≠ 0 ∧
      theOffer.lastSeq = seqByte (some 6) ∧ theOffer.nextSeq = (10 : Seq).zeroExtend 8) ∧
    seventeen.engine.state ≠ .stopped ∧ seventeen.findCar 40117 = none ∧ seventeen.firstFree = some 3 ∧
    seventeen.fitsOneMore 8 .b = true ∧ seventeen.findCar 1 = some 0 ∧ (seventeen.entry 0).state = .active ∧
    seventeen.findCar 6 = some 5 ∧ (seventeen.entry 5).state = .pending ∧
    (let s := { seventeen with image := { seventeen.image with round := { seventeen.image.round with period := 800 } } }
     s.fitsOneMore 8 .b = false) :=
  ⟨fun s hs => quiescent_of (by revert s; decide +kernel), by decide +kernel⟩

/-- Node 17 takes the OFFER: 704 + 114 = 818, entry 3 ARRIVING with timer 12 and score 173, ACCEPT (40,117, 3, 5, B) (6.7). -/
theorem test_offer :
    let t := after (.offerReceived .down 12 17 theOffer) seventeen
    seventeen.airtime = 704 ∧ t.airtime = 818 ∧ (t.entry 3).state = .arriving ∧ (t.entry 3).phaseTimer = some 12 ∧
    (t.entry 3).score = 173 ∧ t.order = [0, 1, 2, 3] ∧ t.ports.down.line = some ⟨17, 12, 0, .accept ⟨40117, 3, 5, 1⟩⟩ := by decide +kernel
/-- A second OFFER for the reserved car is refused BUSY (6.8). -/
theorem test_offer_again :
    (after (.offerReceived .down 12 17 theOffer) (after (.offerReceived .down 12 17 theOffer) seventeen)).ports.down.handover =
      [⟨17, 12, 0, .refuse 40117 3⟩] := by decide +kernel

theorem witness_HandoverRepliesActed :
    onAir.Quiescent ∧ onAir.neighbour .up = 7 ∧ onAir.neighbour .down = 8 ∧ onAir.image.node.node = 5 ∧ onAir.neighbour .up ≠ 0 ∧
    (onAir.findCar 3 = some 2 ∧ (onAir.entry 2).state = .offering ∧ (onAir.entry 2).peer = some 7) ∧
    (onAir.findCar 4 = some 3 ∧ (onAir.entry 3).state = .moving ∧ (onAir.entry 3).peer = some 8) ∧
    (onAir.findCar 5 = some 4 ∧ (onAir.entry 4).state = .arriving ∧ (onAir.entry 4).peer = some 7) ∧
    (onAir.findCar 1 = some 0 ∧ (onAir.entry 0).peer = none) ∧
    (let a : AcceptBody := ⟨3, 23, 15, 2⟩
     a.car ≠ 0 ∧ a.index.toNat ≤ 23 ∧ a.channel.toNat ≤ 15 ∧ a.cls = byteOf RateClass.c.code) ∧
    RefuseReason.ofCode 5 = some .stopped ∧ RefuseReason.ofCode 6 = none :=
  ⟨quiescent_of (by decide +kernel), by decide +kernel⟩

theorem test_accept :
    ((after (.acceptReceived .up 7 5 ⟨3, 3, 5, 1⟩) (up onAir)).entry 2).state = .moving ∧
    (after (.acceptReceived .up 7 5 ⟨1, 3, 5, 1⟩) (up onAir)).ports.up.line = some ⟨5, 7, 0, .cancel 1⟩ := by decide +kernel
theorem test_refuse : notices (.refuseReceived .up 7 5 3 3) onAir = [.handoverRefused 3 2 7 .busy] ∧
    notices (.refuseReceived .up 7 5 3 4) onAir = [.handedOver 3 2 7 true] := by decide +kernel
theorem test_done : notices (.doneReceived .down 8 5 4) onAir = [.handedOver 4 3 8 false] ∧
    (after (.doneReceived .up 7 5 1) onAir).counters.stray = 1 := by decide +kernel
theorem test_cancel : notices (.cancelReceived .up 7 5 5) onAir = [.arrivalCancelled 5 4 7] ∧
    (after (.cancelReceived .down 7 5 5) onAir).counters.misaddressed = 1 := by decide +kernel

def passing (d : PortalDirection) : State :=
  up { base with image := { base.image with node := { base.image.node with portal := d } } }

def aPass : PassBody := { origin := 9, car := 77, kind := 5, stamp := 300, margin := 40, corrections := 1, payload := [1, 2, 3] }

theorem witness_PassRelayed :
    (passing .self).Quiescent ∧ (passing .up).Quiescent ∧ (passing .self).image.node.portal = .self ∧ (passing .up).portalPort = some .up ∧
    aPass.payload ≠ [] ∧ aPass.payload.length ≤ 64 :=
  ⟨quiescent_of (by decide +kernel), quiescent_of (by decide +kernel), by decide +kernel⟩

/-- A PASS from the down port is relayed up with one hop more; from the up port it is wrong-direction; at hop 31 it is dropped, and
a SELF node delivers it (R135, R136). -/
theorem test_pass :
    (after (.passReceived .down 8 0 30 aPass) (passing .up)).ports.up.line = some ⟨5, 0, 31, .pass aPass⟩ ∧
    (after (.passReceived .up 7 0 0 aPass) (passing .up)).ports.up.counters.wrongDirection = 1 ∧
    (after (.passReceived .down 8 0 31 aPass) (passing .up)).ports.down.counters.hopLimit = 1 ∧
    ((after (.passReceived .down 8 0 31 aPass) (passing .self)).rx 2).records.map (fun r => (r.car, r.relayed, r.origin)) =
      [(77, true, 9)] := by decide +kernel

/-- Two queues on one port (7.3): P1 on the line, P2 and P3 queued, then O1, P4, D1 and the port's going DOWN. -/
theorem test_two_queues :
    let pass := fun n : Nat => (⟨5, 0, 1, .pass { aPass with stamp := BitVec.ofNat 16 n }⟩ : ChainFrame)
    let o : ChainFrame := ⟨5, 7, 0, .offer theOffer⟩
    let d : ChainFrame := ⟨5, 7, 0, .done 9⟩
    let at0 : Port := { Port.afterReset with isUp := true, line := some (pass 1), passAlong := [pass 2, pass 3] }
    let at1 := (((at0.submitHandover o).submitPass (pass 4)).frameSent).submitHandover d
    let at2 := at1.frameSent.frameSent
    let at3 := ((at2.goDown false).frameSent).submitPass (pass 5)
    at1.line = some o ∧ at1.handover = [d] ∧ at2.line = some (pass 2) ∧ at2.passAlong = [pass 3, pass 4] ∧
    at3.counters = { PortCounters.zero with framesOut := 4, dropped := 3 } ∧ at3.line = none := by decide +kernel

theorem witness_ChainFramesAddressed :
    (7 : Byte) ≠ 0 ∧ 7 = base.image.node.upNeighbour ∧ (8 : Byte) ≠ 0 ∧ 8 ≠ base.image.node.upNeighbour ∧
    8 = base.image.node.downNeighbour ∧ (9 : Byte) ≠ base.image.node.upNeighbour ∧ 9 ≠ base.image.node.downNeighbour ∧
    (after .resetAsserted base).inReset = true ∧ base.inReset = false ∧ (base.port .up).line = none ∧
    ((base.setPort .up { Port.afterReset with line := some ⟨5, 7, 0, .done 9⟩ }).port .up).line = some ⟨5, 7, 0, .done 9⟩ := by
  decide +kernel

def busyPort (f : Port → Port) : State :=
  (up base).setPort .up (f { Port.afterReset with
    isUp := true, receiver := .inside (heard [0xA7, 9]), line := some ⟨5, 7, 0, .done 9⟩ })

theorem witness_ChainLineEvents :
    (∀ s ∈ [base, up base, busyPort id, busyPort fun x => { x with handover := [⟨5, 7, 0, .done 8⟩] },
      busyPort fun x => { x with passAlong := [⟨5, 0, 0, .pass aPass⟩] }], s.Quiescent) ∧
    (base.port .up).isUp = false ∧ ((up base).port .down).isUp = true ∧ ((up base).port .up).line = none ∧
    ((up base).port .up).receiver = .hunting ∧ ((busyPort id).port .up).receiver ≠ .hunting ∧
    ((busyPort id).port .up).line = some ⟨5, 7, 0, .done 9⟩ :=
  ⟨fun s hs => quiescent_of (by revert s; decide +kernel), by decide +kernel⟩

theorem test_port_up : (after (.portUp .up) base).ports.up.isUp = true := by decide +kernel
theorem test_port_down : (after (.portDown .up false) (busyPort id)).ports.up.counters.bad = 1 ∧
    (after (.portDown .up false) (up base)).ports.up.counters.bad = 0 := by decide +kernel
theorem test_chain_bad_frame : (after (.chainBadFrame .down) base).ports.down.counters.bad = 1 := by decide +kernel
theorem test_chain_frame_sent : after (.chainFrameSent .up) base = base := by decide +kernel
theorem test_drain_end : after .drainEnd base = base := by decide +kernel

end Sys2Proof.Tests
end

section
/-!
PROOFS. SET_ORDER (R31): a body of bytes names at most one list of roster indices, so that the order table it asks for, and with
it the decision, is determined.
-/
namespace Sys2Proof.Proofs
open Sys2Proof.Machine

/-- A roster index fits a byte. -/
@[simp] theorem toNat_byteOf_index (i : Index) : (byteOf i.val).toNat = i.val := by
  have := i.isLt
  simp only [byteOf, BitVec.toNat_ofNat]
  omega

/-- What reading a list of bytes as roster indices answers: the one list of indices whose bytes they are. -/
theorem readIndices_eq_some_iff {bs : List Byte} {is : List Index} :
    readIndices bs = some is ↔ bs = is.map fun i => byteOf i.val := by
  induction bs generalizing is with
  | nil => cases is <;> simp [readIndices]
  | cons b bs ih =>
    constructor
    · intro h
      by_cases hb : b.toNat < 24
      · simp only [readIndices, dif_pos hb, Option.map_eq_some_iff] at h
        obtain ⟨js, hjs, rfl⟩ := h
        rw [ih.mp hjs]
        simp [byteOf]
      · simp [readIndices, hb] at h
    · intro h
      cases is with
      | nil => simp at h
      | cons j js =>
        obtain ⟨rfl, hbs⟩ := List.cons.inj h
        simp [readIndices, ih.mpr hbs]

theorem exec_setOrder (tag : Byte) (list : List Byte) (s : State) :
    exec (.setOrder tag list) s = onRequest (.setOrder tag list) (decideSetOrder list) s := rfl

/-- A permutation of the order table as it stands is accepted, and becomes the order table (R31). -/
theorem decideSetOrder_of_perm {list : List Byte} {is : List Index} {s : State}
    (hread : list = is.map fun i => byteOf i.val) (hperm : is.Perm s.order) :
    decideSetOrder list s = .accept fun t => { t with order := is } := by
  simp [decideSetOrder, readIndices_eq_some_iff.mpr hread, List.isPerm_iff.mpr hperm]

/-- Bytes that spell no permutation of the order table are refused, whether or not they spell indices (R31). -/
theorem decideSetOrder_of_not_perm {list : List Byte} {s : State}
    (h : ∀ is : List Index, list = is.map (fun i => byteOf i.val) → ¬ is.Perm s.order) :
    decideSetOrder list s = .refuse .badOrder := by
  cases hread : readIndices list with
  | none => simp [decideSetOrder, hread]
  | some is =>
    have hperm : ¬ is.Perm s.order := h is (readIndices_eq_some_iff.mp hread)
    simp [decideSetOrder, hread, List.isPerm_iff, hperm]

/-- Settles O51: the bytes determine the indices they spell, so the request that is taken is decided by whether those are a
permutation of the order table. -/
theorem setOrderNeedsPermutation : Obligations.SetOrderNeedsPermutation := by
  intro tag list s htakes c
  have hexec : exec c s = .next ((decideSetOrder list s).effect
      (s.answered c (decideSetOrder list s).status (decideSetOrder list s).body)) :=
    (exec_setOrder tag list s).trans (onRequest_of_takes _ htakes)
  constructor
  · intro is hread hperm
    rw [hexec, decideSetOrder_of_perm hread hperm]
    rfl
  · intro h
    rw [hexec, decideSetOrder_of_not_perm h]
    rfl

end Sys2Proof.Proofs
end

section
/-!
PROOFS. The FIXED survey pattern (R157): byte i of a pattern that a valid block fills is byte i mod m of the block, and the
rest of the rule is read off that.
-/
namespace Sys2Proof.Proofs
open Sys2Proof.Machine

/-- A group's values have no bad field when each stands in the range of its field (R172). -/
theorem firstBadField_eq_none_iff {fs : List FieldSpec} {vs : List Nat} :
    firstBadField fs vs = none ↔ ∀ p ∈ fs.zip vs, p.1.inRange p.2 = true := by
  simp [firstBadField, List.findIdx?_eq_none_iff]

/-- The range that R171 gives the block length is kept by every valid image. -/
theorem pattern_block_range_of_valid {i : Settings} (h : i.Valid) : 1 ≤ i.pattern.block ∧ i.pattern.block ≤ 12 := by
  have hfield : (byteField 1 12, i.pattern.block) ∈ Group.pattern.fields.zip (i.values .pattern) := by
    simp [Group.fields, Settings.values]
  have hrange := firstBadField_eq_none_iff.mp (h.fields .pattern) _ hfield
  simpa [byteField] using hrange

section Fixed
variable {g : PatternGroup}

theorem make_of_fixed (hkind : g.kind = .fixed) (n : Nat) :
    g.make n = (List.range n).map fun i => g.bytes.getD (i % g.block) 0 := by
  simp [PatternGroup.make, hkind]

theorem make_of_bands (hkind : g.kind = .bands) (n : Nat) :
    g.make n = fillBands g.bandSize (g.bytes.take g.bands) n := by
  simp [PatternGroup.make, hkind]

theorem length_make_of_fixed (hkind : g.kind = .fixed) (n : Nat) : (g.make n).length = n := by
  simp [make_of_fixed hkind]

/-- Byte i is V(i mod m): a block of at least one byte, all of them present, holds that place. -/
theorem getElem?_make_of_fixed (hkind : g.kind = .fixed) (hpos : 1 ≤ g.block) (hle : g.block ≤ g.bytes.length)
    {n i : Nat} (hi : i < n) : (g.make n)[i]? = g.bytes[i % g.block]? := by
  have hplace : i % g.block < g.bytes.length := (Nat.mod_lt i hpos).trans_le hle
  simp [make_of_fixed hkind, hi, hplace]

/-- A pattern shorter than the block is the start of the block: no place in it wraps. -/
theorem make_of_fixed_of_lt_block (hkind : g.kind = .fixed) (hle : g.block ≤ g.bytes.length) {n : Nat} (hn : n < g.block) :
    g.make n = g.bytes.take n := by
  apply List.ext_getElem?
  intro i
  by_cases hi : i < n
  · rw [getElem?_make_of_fixed hkind (by omega) hle hi, Nat.mod_eq_of_lt (hi.trans hn), List.getElem?_take_of_lt hi]
  · have hlen := length_make_of_fixed hkind n
    rw [List.getElem?_eq_none (by omega), List.getElem?_eq_none (by simp; omega)]

theorem make_of_fixed_of_block_eq_one (hkind : g.kind = .fixed) (hone : g.block = 1) (n : Nat) :
    g.make n = List.replicate n (g.bytes.getD 0 0) := by
  simp [make_of_fixed hkind, hone, Nat.mod_one, List.map_const']

end Fixed

/-- Settles O45: the range of m is that of its field, and each clause on the bytes is a case of byte i being V(i mod m). -/
theorem fixedPatternRepeatsBlock : Obligations.FixedPatternRepeatsBlock := by
  refine ⟨?range, ?fixed, ?bands, rfl, by decide⟩
  case range =>
    intro i hvalid
    obtain ⟨hpos, hmax⟩ := pattern_block_range_of_valid hvalid
    exact ⟨hpos, hmax, hmax.trans_eq hvalid.pattern.symm⟩
  case fixed =>
    intro g n hkind hpos hle
    refine ⟨length_make_of_fixed hkind n, fun i hi => getElem?_make_of_fixed hkind hpos hle hi,
      fun hn => make_of_fixed_of_lt_block hkind hle hn, fun hone => make_of_fixed_of_block_eq_one hkind hone n,
      fun bands bandSize => ?_⟩
    exact (make_of_fixed (g := { g with bands, bandSize }) hkind n).trans (make_of_fixed hkind n).symm
  case bands =>
    intro g n m hkind
    exact (make_of_bands (g := { g with block := m }) hkind n).trans (make_of_bands hkind n).symm

end Sys2Proof.Proofs
end

section
/-!
PROOFS. What a step can do, said once: every command takes the part along a path of moves, each of which touches one part of the
state and says why no bound or agreement of Safety.lean is broken by it. The invariants are then read off the moves.
-/
namespace Sys2Proof.Proofs
open Sys2Proof.Machine

/-! ### Words for the guards of the moves -/

/-- The states in which an entry may hold commands (R88). -/
def HoldsCommands (x : EntryState) : Prop := x = .joining ∨ x = .active ∨ x = .offering ∨ x = .moving

/-- An entry that holds no candidate (R59, R60). -/
def Unled (e : Entry) : Prop := e.candidate = none ∧ e.nbrScore = 0 ∧ e.leadCount = 0

/-- A command as an operation on its list leaves it: the number stays, it is outstanding only if it was, and it stays sent. -/
structure Follows (k' k : Command) : Prop where
  number : k'.number = k.number
  seqUsed : k'.seqUsed = none ∨ k'.seqUsed = k.seqUsed
  sent : k.sent = true → k'.sent = true

/-- A command list that only lost commands, those left following those they were. -/
abbrev Shrinks (new old : List Command) : Prop := List.SublistForall₂ Follows new old

/-- A plan kept by the engine has a position of an index that is not stale. -/
def Names (e : Engine) (i : Index) : Prop := ∃ ago, ∃ q ∈ (e.planOf ago).positions, q.stale = false ∧ q.index = i

/-- An entry in the place of the one at an index that stays slotted or not, keeps its car, allowance and class, and holds a peer,
a timer, a target, a candidate and commands only as that one did or as the rules let it. -/
structure EntryEdit (s : State) (i : Index) (e : Entry) : Prop where
  slotted : e.state.slotted = (s.entry i).state.slotted
  free : e.state = .free ↔ (s.entry i).state = .free
  holds : HoldsCommands (s.entry i).state → HoldsCommands e.state
  car : e.car = (s.entry i).car
  granted : e.granted = (s.entry i).granted
  cls : e.cls = (s.entry i).cls
  vacant : s.entry i = Entry.vacant → e = Entry.vacant ∨ Names s.engine i
  handover : (s.entry i).HandoverFields → e.HandoverFields
  peer : ∀ n, e.peer = some n → (s.entry i).peer = some n ∨ (s.portFacing n).isSome = true
  unled : s.image.node.upNeighbour = 0 → s.image.node.downNeighbour = 0 → Unled (s.entry i) → Unled e
  commands : Shrinks e.commands (s.entry i).commands

/-- An entry for a car that no other entry holds, with no commands and no candidate. -/
structure NewEntry (s : State) (i : Index) (e : Entry) : Prop where
  car : e.car ≠ 0
  fresh : s.CarsDistinct → ∀ j, j ≠ i → (s.entry j).state ≠ .free → (s.entry j).car ≠ e.car
  handover : e.HandoverFields
  peer : ∀ n, e.peer = some n → (s.portFacing n).isSome = true
  unled : Unled e
  commands : e.commands = []

/-- A plan in the place of another: each position serves the index and car of one that was there, is not stale only if that was
not, and names a command only if that did, or one that was sent. -/
def PlanFollows (s : State) (new old : Plan) : Prop :=
  ∀ q ∈ new.positions, ∃ p ∈ old.positions, q.index = p.index ∧ q.car = p.car ∧ (q.stale = false → p.stale = false) ∧
    (s.NumbersHeld → ∀ n, q.sent = .command n → p.sent = .command n ∨ ∀ i, ∀ k ∈ (s.entry i).commands, k.number = n → k.sent = true)

/-! ### The moves -/

/-- One move that leaves the engine's state, the radio and the quiet controller as they are. -/
inductive Move (s : State) : State → Prop where
  | other (c : NodeCounters) (st : Store) : Move s { s with counters := c, store := st }
  | control (k : ControlLink) (held : s.control.Accounted → k.Accounted) : Move s { s with control := k }
  | port (p : PortId) (x : Port) (held : (s.port p).Held → x.Held) : Move s (s.setPort p x)
  | rx (q : Fin 4) (x : RxQueue) (within : (s.rx q).Within (s.queueSetting q) → x.Within (s.queueSetting q)) : Move s (s.setRx q x)
  | roster (r : Vector Entry 24) (edits : ∀ i : Index, EntryEdit s i r[i.val]) : Move s { s with roster := r }
  | reclass (i : Index) (cls : RateClass) (held : Bool) (used : s.entry i ≠ Entry.vacant)
      (fits : s.RoundFits → (s.setEntry i { s.entry i with cls := some cls, rateHeld := held }).AirtimeFits) :
      Move s (s.setEntry i { s.entry i with cls := some cls, rateHeld := held })
  | slot (i : Index) (e : Entry) (place : (s.entry i).state.slotted = false) (slotted : e.state.slotted = true)
      (new : NewEntry s i e) (fits : s.fitsOneMore e.granted e.rate = true) : Move s (s.slotIn i e)
  | ask (i : Index) (e : Entry) (place : (s.entry i).state = .free) (pending : e.state = .pending) (new : NewEntry s i e) :
      Move s (s.setEntry i e)
  | clear (i : Index) : Move s (clearEntry i s)
  | order (is : List Index) (perm : is.Perm s.order) : Move s { s with order := is }
  | lists (as : List Answer) (bs : List Bar)
      (answers : s.ListsHeld → as.length ≤ answerCapacity ∧ (as.map Answer.car).Nodup)
      (bars : s.ListsHeld → bs.length ≤ 8 ∧ (bs.map Bar.car).Nodup ∧ ∀ b ∈ bs, 1 ≤ b.rounds ∧ b.rounds ≤ 65535) :
      Move s { s with answers := as, bars := bs }
  | broadcasts (bs : List Broadcast) (n : Byte) (few : s.broadcasts.length ≤ 4 → bs.length ≤ 4)
      (numbers : s.NumbersHeld → n ≠ 0 ∧ (∀ b ∈ bs, b.id ≠ 0) ∧ (bs.map Broadcast.id).Nodup) :
      Move s { s with broadcasts := bs, nextBroadcast := n }
  | plans (a b c : Plan) (plan : PlanFollows s a s.engine.plan) (prev : PlanFollows s b s.engine.prev)
      (older : PlanFollows s c s.engine.older) :
      Move s { s with engine := { s.engine with plan := a, prev := b, older := c } }
  | send (i : Index) (k : Command) (holds : HoldsCommands (s.entry i).state) (pool : s.poolCount < poolCapacity)
      (list : (s.entry i).commands.length < listCapacity) (waiting : k.seqUsed = none)
      (number : s.NumbersHeld → k.number ≠ 0 ∧ ∀ j, ∀ c ∈ (s.entry j).commands, c.number ≠ k.number) : Move s (addCommand i k s)
  | carry (i : Index) (k : Command) (ks : List Command) (q next : Seq) (head : (s.entry i).commands = k :: ks) :
      Move s (s.setEntry i
        { s.entry i with nextSeq := next, commands := { k with seqUsed := some q, sent := true } :: ks })
  | settings (i : Settings) (l : LiveSettings) (u : Unapplied) (qs : Vector RxQueue 4)
      (fits : s.RoundFits → s.airtimeWith i.round ≤ i.round.period)
      (peers : i.node = s.image.node ∨ ∀ j, (s.entry j).state.inHandover = false)
      (unled : i.node.upNeighbour = 0 → i.node.downNeighbour = 0 → s.CandidatesAllowed → ∀ j, Unled (s.entry j))
      (within : ∀ q : Fin 4, (s.rx q).Within (s.queueSetting q) → qs[q.val].Within i.queues.queue[q.val])
      (budget : s.image.queues.budget ≤ recordStoreBytes → i.queues.budget ≤ recordStoreBytes)
      (grace : s.ListsHeld → l.roster.graceRounds ≤ 4 ∧ i.roster.graceRounds ≤ 4) :
      Move s { s with image := i, live := l, unapplied := u, queues := qs }

/-- Any number of moves. -/
abbrev Calm : State → State → Prop := Relation.ReflTransGen Move

theorem Calm.trans {s t u : State} (h : Calm s t) (h' : Calm t u) : Calm s u := Relation.ReflTransGen.trans h h'

/-- One stage of a path: a move; a change of the engine's state, of the radio, of the quiet controller or of RESET; the start of a
round; a reset. -/
inductive Stage (s : State) : State → Prop where
  | move {t : State} (h : Move s t) : Stage s t
  | recore (r : Bool) (q : Quiet) (x : EngineState) (n : RoundNumber) (p g : Bool) (o : Option RadioBurst) :
      Stage s { s with
        inReset := r, quiet := q
        engine := { s.engine with state := x, round := n, resumePending := p, inProgress := g, radio := o } }
  | begin : Stage s (beginRound s)
  | reset (straps : Straps) (i : Settings) (l : LiveSettings) (u : Unapplied) (st : Store)
      (fits : s.RoundFits → i.round.fixedPart ≤ i.round.period)
      (budget : s.image.queues.budget ≤ recordStoreBytes → i.queues.budget ≤ recordStoreBytes)
      (grace : s.ListsHeld → l.roster.graceRounds ≤ 4 ∧ i.roster.graceRounds ≤ 4) :
      Stage s (s.afterReset straps i l u st)

/-- Any number of stages. -/
abbrev Path : State → State → Prop := Relation.ReflTransGen Stage

theorem Path.of_calm {s t : State} (h : Calm s t) : Path s t := Relation.ReflTransGen.mono (fun _ _ => Stage.move) _ _ h

theorem Stage.queue {s t : State} (h : Stage s t) : t.pending = s.pending ∧ t.arrivals = s.arrivals := by
  cases h with
  | move h =>
    cases h with
    | port p => cases p <;> exact ⟨rfl, rfl⟩
    | _ => exact ⟨rfl, rfl⟩
  | _ => exact ⟨rfl, rfl⟩

/-- No path touches the queue of the waiting commands, or what arrives behind it. -/
theorem Path.queue {s t : State} (h : Path s t) : t.pending = s.pending ∧ t.arrivals = s.arrivals := by
  induction h with
  | refl => exact ⟨rfl, rfl⟩
  | tail _ hstage ih => exact ⟨hstage.queue.1.trans ih.1, hstage.queue.2.trans ih.2⟩

/-- A predicate that every stage keeps is kept along a path. -/
theorem Path.keeps {P : State → Prop} (stage : ∀ {s t}, P s → Stage s t → P t) {s t : State} (h : Path s t) (hs : P s) : P t := by
  induction h with
  | refl => exact hs
  | tail _ hstep ih => exact stage ih hstep

/-- What no move touches. -/
structure SameCore (s t : State) : Prop where
  inReset : t.inReset = s.inReset
  quiet : t.quiet = s.quiet
  state : t.engine.state = s.engine.state
  round : t.engine.round = s.engine.round
  resumePending : t.engine.resumePending = s.engine.resumePending
  inProgress : t.engine.inProgress = s.engine.inProgress
  radio : t.engine.radio = s.engine.radio

theorem SameCore.rfl {s : State} : SameCore s s := ⟨Eq.refl _, Eq.refl _, Eq.refl _, Eq.refl _, Eq.refl _, Eq.refl _, Eq.refl _⟩

theorem SameCore.trans {s t u : State} (h : SameCore s t) (h' : SameCore t u) : SameCore s u where
  inReset := h'.inReset.trans h.inReset
  quiet := h'.quiet.trans h.quiet
  state := h'.state.trans h.state
  round := h'.round.trans h.round
  resumePending := h'.resumePending.trans h.resumePending
  inProgress := h'.inProgress.trans h.inProgress
  radio := h'.radio.trans h.radio

theorem Move.sameCore {s t : State} (h : Move s t) : SameCore s t := by
  cases h with
  | port p => cases p <;> exact ⟨rfl, rfl, rfl, rfl, rfl, rfl, rfl⟩
  | _ => exact ⟨rfl, rfl, rfl, rfl, rfl, rfl, rfl⟩

theorem Calm.sameCore {s t : State} (h : Calm s t) : SameCore s t := by
  induction h with
  | refl => exact .rfl
  | tail _ hmove ih => exact ih.trans hmove.sameCore

theorem SameCore.quietSound {s t : State} (h : SameCore s t) (hs : s.QuietSound) : t.QuietSound where
  ack := by rw [h.quiet, h.inReset]; exact hs.ack
  rounds := by rw [h.quiet, h.inProgress]; exact hs.rounds
  silent := by rw [h.quiet, h.inReset, h.radio]; exact hs.silent
  opened := by rw [h.quiet]; exact hs.opened
  claimed := by rw [h.quiet]; exact hs.claimed
  resting := by rw [h.state, h.inProgress]; exact hs.resting
  stopping := by rw [h.state, h.inProgress]; exact hs.stopping

theorem SameCore.roundDue {s t : State} (h : SameCore s t) : t.roundDue = s.roundDue := by
  simp [State.roundDue, h.state, h.quiet, h.inProgress]

end Sys2Proof.Proofs
end

section
/-!
PROOFS. The control link (10.2, 10.3): each of its operations keeps its bounds and its accounting of the replies outstanding.
-/
namespace Sys2Proof.Proofs
open Sys2Proof.Machine

theorem count16_le (n : Nat) : count16 n ≤ 65535 := Nat.min_le_right _ _

/-! ### The replies outstanding -/

/-- Taking the next frame moves a reply to the line and makes none. -/
theorem outstanding_kick (k : ControlLink) : k.kick.outstanding = k.outstanding := by
  unfold ControlLink.kick
  repeat' split
  all_goals simp_all [ControlLink.outstanding]

theorem notices_kick_le (k : ControlLink) : k.kick.notices.length ≤ k.notices.length := by
  unfold ControlLink.kick
  repeat' split
  all_goals simp_all

theorem noticesLost_kick_le (k : ControlLink) : k.kick.noticesLost ≤ k.noticesLost := by
  unfold ControlLink.kick
  repeat' split
  all_goals simp_all

/-! ### The buffer -/

/-- The number of requests taken and not yet freed. -/
abbrev takenCount (bs : List BufferedRequest) : Nat := (bs.filter fun b => b.taken).length

/-- A request waits exactly when one of the buffer is not taken; marking it raises the number of the taken by 1. -/
theorem takenCount_markTaken {bs : List BufferedRequest} (h : ∃ b ∈ bs, b.taken = false) :
    takenCount (markTaken bs) = takenCount bs + 1 := by
  induction bs with
  | nil => simp at h
  | cons b bs ih =>
    cases hb : b.taken with
    | true =>
      have hrest : ∃ c ∈ bs, c.taken = false := by simpa [hb] using h
      simpa [takenCount, markTaken, hb] using ih hrest
    | false => simp [takenCount, markTaken, hb]

theorem length_markTaken (bs : List BufferedRequest) : (markTaken bs).length = bs.length := by
  have h := congrArg List.length (markTaken_requests bs)
  simpa using h

/-- Every taken request stands before every other. -/
abbrev TakenFirst (bs : List BufferedRequest) : Prop := bs.Pairwise fun a b => b.taken = true → a.taken = true

theorem takenFirst_markTaken {bs : List BufferedRequest} (h : TakenFirst bs) : TakenFirst (markTaken bs) := by
  induction bs with
  | nil => exact h
  | cons b bs ih =>
    obtain ⟨hb, hbs⟩ := List.pairwise_cons.mp h
    cases htaken : b.taken with
    | true =>
      simp only [markTaken, htaken, if_true]
      exact List.pairwise_cons.mpr ⟨fun _ _ _ => htaken, ih hbs⟩
    | false =>
      simp only [markTaken, htaken]
      exact List.pairwise_cons.mpr ⟨fun _ _ _ => rfl, hbs⟩

/-- A buffer with a taken request has one at its head. -/
theorem head_taken {bs : List BufferedRequest} (h : TakenFirst bs) (hpos : 0 < takenCount bs) :
    ∃ b rest, bs = b :: rest ∧ b.taken = true := by
  cases bs with
  | nil => simp at hpos
  | cons b rest =>
    obtain ⟨x, hx⟩ := List.length_pos_iff_exists_mem.mp hpos
    obtain ⟨hmem, htaken⟩ := List.mem_filter.mp hx
    refine ⟨b, rest, rfl, ?_⟩
    rcases List.mem_cons.mp hmem with rfl | hrest
    · exact htaken
    · exact (List.pairwise_cons.mp h).1 x hrest htaken

theorem waiting_some {k : ControlLink} {r : Request} (h : k.waiting = some r) : ∃ b ∈ k.buffer, b.taken = false := by
  obtain ⟨b, hfind, -⟩ := Option.map_eq_some_iff.mp h
  exact ⟨b, List.mem_of_find?_eq_some hfind, by simpa using List.find?_some hfind⟩

/-! ### What keeps the accounting -/

section
variable {k : ControlLink}

/-- The accounting depends on the buffer, the busy list, the receiver and the replies outstanding, and on bounds that may fall. -/
theorem Accounted.of_le {k' : ControlLink} (h : k.Accounted) (hbuffer : k'.buffer = k.buffer) (hbusy : k'.busy = k.busy)
    (hreceiver : k'.receiver = k.receiver) (hout : k'.outstanding = k.outstanding)
    (hnotices : k'.notices.length ≤ noticeCapacity) (hbad : k'.badFrames ≤ 65535) (hlost : k'.noticesLost ≤ 65535) :
    k'.Accounted where
  buffer := hbuffer ▸ h.buffer
  busy := hbusy ▸ h.busy
  notices := hnotices
  badFrames := hbad
  noticesLost := hlost
  receiving := by rw [hreceiver, hbusy]; exact h.receiving
  takenFirst := by rw [hbuffer]; exact h.takenFirst
  answered := by rw [hout, hbuffer]; exact h.answered
  refused := by rw [hout, hbusy]; exact h.refused

theorem Accounted.kick (h : k.Accounted) : k.kick.Accounted := by
  obtain ⟨-, hbuffer, hbusy, hbad, -, hreceiver⟩ := kick_frame k
  exact Accounted.of_le h hbuffer hbusy hreceiver (outstanding_kick k) ((notices_kick_le k).trans h.notices) (hbad ▸ h.badFrames)
    ((noticesLost_kick_le k).trans h.noticesLost)

theorem Accounted.post (n : Notice) (h : k.Accounted) : (k.post n).Accounted := by
  by_cases hroom : k.notices.length < noticeCapacity
  · rw [post_room n hroom]
    exact Accounted.kick (Accounted.of_le h rfl rfl rfl rfl (by simpa using hroom) h.badFrames h.noticesLost)
  · rw [post_full n hroom]
    exact Accounted.of_le h rfl rfl rfl rfl h.notices h.badFrames (count16_le _)

theorem badFrames_reply (k : ControlLink) (r : Reply) : (ControlLink.reply r k).badFrames = k.badFrames := by
  obtain ⟨-, -, -, hbad, -, -⟩ := kick_frame { k with replies := k.replies ++ [r] }
  exact hbad

theorem noticesLost_reply_le (k : ControlLink) (r : Reply) : (ControlLink.reply r k).noticesLost ≤ k.noticesLost :=
  noticesLost_kick_le _

/-- Several replies made one after another raise no counter. -/
theorem counters_replies (rs : List Reply) (k : ControlLink) :
    (rs.foldl (fun c r => ControlLink.reply r c) k).badFrames = k.badFrames ∧
    (rs.foldl (fun c r => ControlLink.reply r c) k).noticesLost ≤ k.noticesLost := by
  induction rs generalizing k with
  | nil => exact ⟨rfl, le_rfl⟩
  | cons r rs ih =>
    obtain ⟨hbad, hlost⟩ := ih (ControlLink.reply r k)
    exact ⟨hbad.trans (badFrames_reply k r), hlost.trans (noticesLost_reply_le k r)⟩

/-- A request taken and its reply made (R164, R165). -/
theorem Accounted.answer {r : Reply} {q : Request} (hr : r.busy = false) (hwaits : k.waiting = some q) (h : k.Accounted) :
    (k.answer r).Accounted := by
  obtain ⟨hbuffer, hbusy, hnotices, -, hreceiver⟩ := reply_frame { k with buffer := markTaken k.buffer } r
  have hout := outstanding_reply { k with buffer := markTaken k.buffer } r
  constructor
  case buffer => rw [ControlLink.answer, hbuffer]; exact (length_markTaken _).trans_le h.buffer
  case busy => rw [ControlLink.answer, hbusy]; exact h.busy
  case notices => rw [ControlLink.answer, hnotices]; exact h.notices
  case badFrames => exact (badFrames_reply _ r).le.trans h.badFrames
  case noticesLost => exact (noticesLost_reply_le _ r).trans h.noticesLost
  case receiving => rw [ControlLink.answer, hreceiver, hbusy]; exact h.receiving
  case takenFirst => rw [ControlLink.answer, hbuffer]; exact takenFirst_markTaken h.takenFirst
  case answered =>
    rw [ControlLink.answer, hout, hbuffer, List.filter_append, List.length_append]
    have hcount := takenCount_markTaken (waiting_some hwaits)
    have hold : (k.outstanding.filter fun r => !r.busy).length = takenCount k.buffer := h.answered
    have hnew : (ControlLink.outstanding { k with buffer := markTaken k.buffer }) = k.outstanding := rfl
    simp only [hnew, hr, List.filter_cons, List.filter_nil]
    simp only [takenCount] at hcount hold
    simp [hcount, hold]
  case refused =>
    rw [ControlLink.answer, hout, hbusy, List.filter_append, List.length_append]
    have hold : (k.outstanding.filter fun r => r.busy).length = k.busy.length := h.refused
    have hnew : (ControlLink.outstanding { k with buffer := markTaken k.buffer }) = k.outstanding := rfl
    simp [hnew, hr, hold]

/-- A refusal enters a busy list with room, its reply the reply queue (R164); the receiver hunts. -/
theorem Accounted.refuseBusy (q : Request) (hroom : k.busy.length < busyCapacity) (hhunts : k.receiver = .hunting)
    (h : k.Accounted) : (refuseBusy q k).Accounted := by
  obtain ⟨hbuffer, hbusy, hnotices, -, hreceiver⟩ := reply_frame
    { k with busy := k.busy ++ [{ kind := q.kind, tag := q.tag }] }
    { kind := replyKind q.kind, tag := q.tag, status := .busy, body := [], busy := true }
  have hout := outstanding_reply
    { k with busy := k.busy ++ [{ kind := q.kind, tag := q.tag }] }
    { kind := replyKind q.kind, tag := q.tag, status := .busy, body := [], busy := true }
  have hnew : (ControlLink.outstanding { k with busy := k.busy ++ [{ kind := q.kind, tag := q.tag }] }) = k.outstanding := rfl
  rw [hnew] at hout
  unfold Machine.refuseBusy
  constructor
  case buffer => rw [hbuffer]; exact h.buffer
  case busy => rw [hbusy]; simpa using hroom
  case notices => rw [hnotices]; exact h.notices
  case badFrames => exact (badFrames_reply _ _).le.trans h.badFrames
  case noticesLost => exact (noticesLost_reply_le _ _).trans h.noticesLost
  case receiving => intro hr; exact absurd (hreceiver.trans hhunts) hr
  case takenFirst => rw [hbuffer]; exact h.takenFirst
  case answered => rw [hout, hbuffer]; simpa using h.answered
  case refused => rw [hout, hbusy]; simpa using h.refused

theorem Accounted.hunt (h : k.Accounted) : { k with receiver := .hunting }.Accounted :=
  { h with receiving := fun hr => absurd rfl hr }

/-- A frame that passed the frame check arrives (R164). -/
theorem Accounted.arrive (q : Request) (h : k.Accounted) : (k.arrive q).Accounted := by
  unfold ControlLink.arrive
  split
  · exact Accounted.hunt h
  split
  · split
    · exact Accounted.hunt h
    · next hroom => exact Accounted.refuseBusy q (Nat.lt_of_not_le hroom) rfl (Accounted.hunt h)
  · next hroom =>
    have hlt : k.buffer.length < bufferCapacity := by
      simp only [not_or] at hroom
      omega
    refine { Accounted.hunt h with buffer := by simpa using hlt, takenFirst := ?_, answered := ?_ }
    · refine List.pairwise_append.mpr ⟨h.takenFirst, by simp, ?_⟩
      simp
    · simpa [ControlLink.outstanding] using h.answered

theorem Accounted.badFrame (h : k.Accounted) : k.badFrame.Accounted := by
  refine { Accounted.hunt h with badFrames := ?_ }
  show (if k.begun then count16 k.badFrames else k.badFrames) ≤ 65535
  split
  · exact count16_le _
  · exact h.badFrames

/-- A frame sent frees the place of what it answered (R165, R167). -/
theorem Accounted.frameSent (h : k.Accounted) : k.frameSent.Accounted := by
  unfold ControlLink.frameSent
  cases hline : k.line with
  | none => exact h
  | some f =>
    cases f with
    | notice n =>
      exact Accounted.kick (Accounted.of_le h rfl rfl rfl (by simp [ControlLink.outstanding, hline]) h.notices h.badFrames h.noticesLost)
    | reply r =>
      have hout : k.outstanding = r :: k.replies := by simp [ControlLink.outstanding, hline]
      cases hbusy : r.busy with
      | true =>
        simp only [hbusy, if_true]
        have hrefused := h.refused
        have hanswered := h.answered
        simp only [hout, List.filter_cons, hbusy, if_true, List.length_cons] at hrefused hanswered
        apply Accounted.kick
        exact { h with
          busy := (List.tail_sublist _).length_le.trans h.busy
          receiving := fun hr => (List.tail_sublist _).length_le.trans_lt (h.receiving hr)
          answered := by simpa [ControlLink.outstanding] using hanswered
          refused := by simp only [ControlLink.outstanding, List.length_tail]; omega }
      | false =>
        have hrefused := h.refused
        have hanswered := h.answered
        simp only [hout, List.filter_cons, hbusy] at hrefused hanswered
        obtain ⟨b, rest, hbuffer, htaken⟩ := head_taken h.takenFirst (show 0 < takenCount k.buffer by
          simp only [takenCount]; simp at hanswered; omega)
        simp only [hbuffer, List.filter_cons, htaken] at hanswered
        simp only [hbusy, Bool.false_eq_true, if_false]
        apply Accounted.kick
        exact { h with
          buffer := (List.tail_sublist _).length_le.trans h.buffer
          takenFirst := h.takenFirst.tail
          answered := by simpa [ControlLink.outstanding, hbuffer] using hanswered
          refused := by simpa [ControlLink.outstanding] using hrefused }

/-- A RESTART taken: every request that waits is answered BUSY in its own place (step 1 of R169). -/
theorem Accounted.beginRestart (h : k.Accounted) : k.beginRestart.Accounted := by
  unfold ControlLink.beginRestart
  generalize hrs : ((k.buffer.filter fun b => !b.taken).map fun b => busyReply b.request) = rs
  have hplain : ∀ r ∈ rs, r.busy = false := by
    rintro r hr
    rw [← hrs] at hr
    obtain ⟨b, -, rfl⟩ := List.mem_map.mp hr
    rfl
  have hlen : rs.length + takenCount k.buffer = k.buffer.length := by
    rw [← hrs, List.length_map, takenCount, Nat.add_comm]
    exact (List.length_eq_length_filter_add _).symm
  obtain ⟨hout, hbuffer, hbusy, hnotices, -, hreceiver⟩ := replies_spec rs
    { k with restarting := true, buffer := k.buffer.map fun b => { b with taken := true } }
  have hnew : (ControlLink.outstanding { k with restarting := true, buffer := k.buffer.map fun b => { b with taken := true } }) =
      k.outstanding := rfl
  rw [hnew] at hout
  obtain ⟨hbad, hlost⟩ := counters_replies rs
    { k with restarting := true, buffer := k.buffer.map fun b => { b with taken := true } }
  have hnone : rs.filter (fun r => r.busy) = [] := List.filter_eq_nil_iff.mpr fun r hr => by simp [hplain r hr]
  have hall : rs.filter (fun r => !r.busy) = rs := List.filter_eq_self.mpr fun r hr => by simp [hplain r hr]
  have htaken : takenCount (k.buffer.map fun b => { b with taken := true }) = k.buffer.length := by
    simp [takenCount, List.filter_map, Function.comp_def]
  constructor
  case buffer => rw [hbuffer]; simpa using h.buffer
  case busy => rw [hbusy]; exact h.busy
  case notices => rw [hnotices]; exact h.notices
  case badFrames => exact hbad.le.trans h.badFrames
  case noticesLost => exact hlost.trans h.noticesLost
  case receiving => rw [hreceiver, hbusy]; exact h.receiving
  case takenFirst =>
    rw [hbuffer]
    exact List.pairwise_map.mpr (List.pairwise_of_forall fun _ _ _ => rfl)
  case answered =>
    have hold : (k.outstanding.filter fun r => !r.busy).length = takenCount k.buffer := h.answered
    rw [hout, hbuffer, List.filter_append, List.length_append, hall, hold]
    exact (Nat.add_comm _ _).trans (hlen.trans htaken.symm)
  case refused => rw [hout, hbusy, List.filter_append, hnone, List.append_nil]; exact h.refused

/-- A byte at the receiver, which starts a frame only while it may. -/
theorem Accounted.receiver {f : Framing} {b : LineByte} (h : k.Accounted) :
    { k with receiver := (k.receiver.take f k.mayStart b).1 }.Accounted := by
  refine { h with receiving := fun hr => ?_ }
  rcases take_inside f _ b k.receiver hr with hinside | hmay
  · exact h.receiving hinside
  · simp only [ControlLink.mayStart, Bool.and_eq_true, decide_eq_true_eq] at hmay
    exact hmay.1

end

end Sys2Proof.Proofs
end

section
/-!
PROOFS. The shared operations as moves: notices, replies, edits of an entry, freeing, answers, bars, chain frames, records.
-/
namespace Sys2Proof.Proofs
open Sys2Proof.Machine

/-! ### Command lists -/

theorem Follows.refl (k : Command) : Follows k k := ⟨rfl, .inr rfl, id⟩

theorem Shrinks.refl (cs : List Command) : Shrinks cs cs := by
  induction cs with
  | nil => exact .nil
  | cons k ks ih => exact .cons (Follows.refl k) ih

theorem Shrinks.of_sublist {new old : List Command} (h : new.Sublist old) : Shrinks new old := by
  induction h with
  | slnil => exact .nil
  | cons k _ ih => exact .cons_right ih
  | cons_cons k _ ih => exact .cons (Follows.refl k) ih

theorem Shrinks.map {f : Command → Command} (h : ∀ k, Follows (f k) k) (cs : List Command) : Shrinks (cs.map f) cs := by
  induction cs with
  | nil => exact .nil
  | cons k ks ih => exact .cons (h k) ih

theorem Shrinks.filter (p : Command → Bool) (cs : List Command) : Shrinks (cs.filter p) cs := .of_sublist List.filter_sublist

/-! ### Edits of an entry -/

/-- Two entries that stand alike in the roster: they differ in counts, scores, candidates, sequences, flags and commands only. -/
structure StandsAs (e' e : Entry) : Prop where
  state : e'.state = e.state := by rfl
  car : e'.car = e.car := by rfl
  granted : e'.granted = e.granted := by rfl
  cls : e'.cls = e.cls := by rfl
  peer : e'.peer = e.peer := by rfl
  phaseTimer : e'.phaseTimer.isSome = e.phaseTimer.isSome := by rfl
  target : e'.target = e.target := by rfl

/-- Two entries that stand alike and have the same candidate. -/
structure Alike (e' e : Entry) : Prop extends StandsAs e' e where
  candidate : e'.candidate = e.candidate := by rfl
  nbrScore : e'.nbrScore = e.nbrScore := by rfl
  leadCount : e'.leadCount = e.leadCount := by rfl

section
variable {s : State} {i : Index} {e : Entry}

theorem EntryEdit.of_standsAs (h : StandsAs e (s.entry i)) (vacant : s.entry i = Entry.vacant → e = Entry.vacant ∨ Names s.engine i)
    (unled : s.image.node.upNeighbour = 0 → s.image.node.downNeighbour = 0 → Unled (s.entry i) → Unled e)
    (commands : Shrinks e.commands (s.entry i).commands) : EntryEdit s i e where
  slotted := by rw [h.state]
  free := by rw [h.state]
  holds := by rw [h.state]; exact id
  car := h.car
  granted := h.granted
  cls := h.cls
  vacant := vacant
  handover := by
    rintro ⟨hpeer, htimer, htarget⟩
    exact ⟨by rw [h.peer, h.state]; exact hpeer, by rw [h.phaseTimer, h.state]; exact htimer, by rw [h.target, h.state]; exact htarget⟩
  peer := fun n hn => .inl (h.peer ▸ hn)
  unled := unled
  commands := commands

theorem EntryEdit.of_alike (h : Alike e (s.entry i)) (vacant : s.entry i = Entry.vacant → e = Entry.vacant ∨ Names s.engine i)
    (commands : Shrinks e.commands (s.entry i).commands) : EntryEdit s i e :=
  .of_standsAs h.toStandsAs vacant
    (fun _ _ ⟨hc, hn, hl⟩ => ⟨h.candidate.trans hc, h.nbrScore.trans hn, h.leadCount.trans hl⟩) commands

theorem EntryEdit.refl (s : State) (i : Index) : EntryEdit s i (s.entry i) := .of_alike {} .inl (.refl _)

/-! ### Calm paths -/

theorem Calm.one {t : State} (h : Move s t) : Calm s t := .single h

theorem calm_other (c : NodeCounters) (st : Store) : Calm s { s with counters := c, store := st } := .one (.other c st)

theorem calm_control {k : ControlLink} (held : s.control.Accounted → k.Accounted) : Calm s { s with control := k } := .one (.control k held)

theorem calm_countWith (s : State) (f : NodeCounters → NodeCounters) : Calm s (s.countWith f) := calm_other _ _

theorem calm_notify (n : Notice) (s : State) : Calm s (notify n s) := calm_control (Accounted.post n)

theorem calm_notifyAll (ns : List Notice) (s : State) : Calm s (notifyAll ns s) := by
  induction ns generalizing s with
  | nil => exact .refl
  | cons n ns ih => exact (calm_notify n s).trans (ih _)

/-- An edit of one entry. -/
theorem calm_setEntry (h : EntryEdit s i e) : Calm s (s.setEntry i e) := by
  refine .one (.roster (s.roster.set i.val e) fun j => ?_)
  have hj : (s.roster.set i.val e)[j.val] = (s.setEntry i e).entry j := rfl
  rw [hj, entry_setEntry]
  split
  · next hij => exact hij ▸ h
  · exact .refl s j

theorem calm_updateEntry {f : Entry → Entry} (h : EntryEdit s i (f (s.entry i))) : Calm s (s.updateEntry i f) := calm_setEntry h

theorem calm_mapEntries {f : Entry → Entry} (h : ∀ i, EntryEdit s i (f (s.entry i))) : Calm s (s.mapEntries f) := by
  refine .one (.roster _ fun j => ?_)
  have hj : (⟨(s.roster.toList.map f).toArray, by simp⟩ : Vector Entry 24)[j.val] = (s.mapEntries f).entry j := rfl
  rw [hj, entry_mapEntries]
  exact h j

/-- An operation on each index in turn. -/
theorem calm_foldl {α : Type} {f : α → State → State} (h : ∀ a s, Calm s (f a s)) (as : List α) (s : State) :
    Calm s (as.foldl (fun t a => f a t) s) := by
  induction as generalizing s with
  | nil => exact .refl
  | cons a as ih => exact (h a s).trans (ih _)

theorem calm_forEach {f : Index → State → State} (h : ∀ i s, Calm s (f i s)) (s : State) : Calm s (forEach f s) :=
  calm_foldl h indices s

/-! ### Freeing, answers, bars -/

theorem calm_freeEntry (i : Index) (n : Option Notice) (r : UndeliveredReason) (s : State) : Calm s (freeEntry i n r s) :=
  (Calm.one (.clear i)).trans (calm_notifyAll _ _)

theorem calm_addAnswer (a : Answer) (s : State) : Calm s (addAnswer a s) := by
  unfold addAnswer
  split
  · next h =>
    obtain ⟨hroom, hwaits⟩ := h
    refine .one (.lists (s.answers ++ [a]) s.bars (fun hs => ⟨by rw [List.length_append]; exact hroom, ?_⟩) fun hs => ⟨hs.bars, hs.barCars, hs.barRounds⟩)
    have hnew : ∀ b ∈ s.answers, b.car ≠ a.car := by simpa [State.answerWaits] using hwaits
    rw [List.map_append]
    refine List.nodup_append.mpr ⟨hs.answerCars, by simp, ?_⟩
    simpa using hnew
  · exact .refl

/-- The bar list changed, the answers left as they are. -/
theorem calm_bars {bs : List Bar}
    (h : s.ListsHeld → bs.length ≤ 8 ∧ (bs.map Bar.car).Nodup ∧ ∀ b ∈ bs, 1 ≤ b.rounds ∧ b.rounds ≤ 65535) :
    Calm s { s with bars := bs } :=
  .one (.lists s.answers bs (fun hs => ⟨hs.answers, hs.answerCars⟩) h)

theorem dropFewest_sublist (bars : List Bar) : (dropFewest bars).Sublist bars := List.eraseP_sublist

/-- The fewest rounds of a bar list that is not empty are those of one of its bars, and no bar has fewer (R47). -/
theorem exists_least_bar {bars : List Bar} (hne : bars ≠ []) (hr : ∀ b ∈ bars, b.rounds ≤ 65535) :
    (∃ b ∈ bars, b.rounds = (bars.map Bar.rounds).foldl min 65535) ∧
      ∀ b ∈ bars, (bars.map Bar.rounds).foldl min 65535 ≤ b.rounds := by
  obtain ⟨hmem, hleast⟩ := List.min?_eq_some_iff.mp (List.min?_cons' (x := 65535) (xs := bars.map Bar.rounds))
  have hlower : ∀ b ∈ bars, (bars.map Bar.rounds).foldl min 65535 ≤ b.rounds := fun b hb =>
    hleast _ (.tail _ (List.mem_map_of_mem hb))
  refine ⟨?_, hlower⟩
  rcases List.mem_cons.mp hmem with htop | hmem
  · obtain ⟨b, hb⟩ := List.exists_mem_of_ne_nil bars hne
    exact ⟨b, hb, le_antisymm ((hr b hb).trans htop.ge) (hlower b hb)⟩
  · obtain ⟨b, hb, heq⟩ := List.mem_map.mp hmem
    exact ⟨b, hb, heq⟩

/-- Of a bar list that is not empty one bar goes. -/
theorem length_dropFewest {bars : List Bar} (hne : bars ≠ []) (hr : ∀ b ∈ bars, b.rounds ≤ 65535) :
    (dropFewest bars).length + 1 = bars.length := by
  obtain ⟨⟨b, hb, heq⟩, -⟩ := exists_least_bar hne hr
  have hpos := List.length_pos_of_mem hb
  have hlen := List.length_eraseP_of_mem (p := fun c : Bar => c.rounds == (bars.map Bar.rounds).foldl min 65535) hb (by simpa using heq)
  rw [dropFewest, hlen]
  omega

theorem calm_addBar (car : CarNumber) {rounds : Nat} (hr : rounds ≤ 65535) (s : State) : Calm s (addBar car rounds s) := by
  unfold addBar
  split
  · exact .refl
  next hpos =>
  split
  · refine calm_bars fun hs => ⟨by rw [List.length_map]; exact hs.bars, ?_, ?_⟩
    · have hsame : (s.bars.map fun b => if b.car = car then { b with rounds := rounds } else b).map Bar.car = s.bars.map Bar.car := by
        rw [List.map_map]
        exact List.map_congr_left fun b _ => by simp only [Function.comp_apply]; split <;> rfl
      rw [hsame]
      exact hs.barCars
    · intro b hb
      obtain ⟨c, hc, rfl⟩ := List.mem_map.mp hb
      split
      · exact ⟨Nat.pos_of_ne_zero hpos, hr⟩
      · exact hs.barRounds c hc
  next hnew =>
  have hfresh : ∀ b ∈ s.bars, b.car ≠ car := by simpa using hnew
  have hadd : ∀ bs : List Bar, bs.Sublist s.bars → bs.length < 8 → s.ListsHeld →
      (bs ++ [Bar.mk car rounds]).length ≤ 8 ∧ ((bs ++ [Bar.mk car rounds]).map Bar.car).Nodup ∧
        ∀ b ∈ bs ++ [Bar.mk car rounds], 1 ≤ b.rounds ∧ b.rounds ≤ 65535 := by
    intro bs hsub hlen hs
    have hsubCars := hsub.map Bar.car
    refine ⟨by rw [List.length_append]; exact hlen, ?_, ?_⟩
    · rw [List.map_append]
      refine List.nodup_append.mpr ⟨hs.barCars.sublist hsubCars, by simp, ?_⟩
      rintro c hc d hd rfl
      obtain ⟨b, hb, hcar⟩ := List.mem_map.mp (hsubCars.subset hc)
      exact hfresh b hb (hcar.trans (List.mem_singleton.mp hd))
    · intro b hb
      rcases List.mem_append.mp hb with hb | hb
      · exact hs.barRounds b (hsub.subset hb)
      · rw [List.mem_singleton.mp hb]
        exact ⟨Nat.pos_of_ne_zero hpos, hr⟩
  split
  · next hroom => exact calm_bars fun hs => hadd s.bars (.refl _) hroom hs
  · next hfull =>
    refine calm_bars fun hs => hadd _ (dropFewest_sublist _) ?_ hs
    have hne : s.bars ≠ [] := by rintro h; simp [h] at hfull
    have := length_dropFewest hne fun b hb => (hs.barRounds b hb).2
    have := hs.bars
    omega

/-! ### Chain ports -/

theorem port_held_kick {x : Port} (hh : x.handover.length ≤ handoverCapacity) (hp : x.passAlong.length ≤ passCapacity)
    (hd : x.isUp = false → x.handover = [] ∧ x.passAlong = []) (hc : x.counters.InRange) : x.kick.Held := by
  obtain ⟨hup, -, hcounters⟩ := Port.kick_frame x
  constructor
  case counters => exact hcounters ▸ hc
  all_goals
    unfold Port.kick
    split <;> simp_all [Nat.le_of_lt]

theorem port_held_drop {x : Port} (h : x.Held) : x.drop.Held :=
  { h with counters := { h.counters with dropped := count16_le _ } }

theorem port_held_submitHandover (f : ChainFrame) {x : Port} (h : x.Held) : (x.submitHandover f).Held := by
  rw [submitHandover_spec]
  split
  · next hroom =>
    refine port_held_kick ?_ h.passAlong ?_ h.counters
    · simpa using hroom.2
    · exact fun hdown => absurd (hroom.1.symm.trans hdown) (by simp)
  · exact port_held_drop h

theorem port_held_submitPass (f : ChainFrame) {x : Port} (h : x.Held) : (x.submitPass f).Held := by
  rw [submitPass_spec]
  split
  · next hroom =>
    refine port_held_kick h.handover ?_ ?_ h.counters
    · simpa using hroom.2
    · exact fun hdown => absurd (hroom.1.symm.trans hdown) (by simp)
  · exact port_held_drop h

theorem calm_updatePort (p : PortId) {f : Port → Port} (h : ∀ {x : Port}, x.Held → (f x).Held) (s : State) : Calm s (s.updatePort p f) :=
  .one (.port p _ h)

theorem calm_sendHandover (p : PortId) (dst : Byte) (b : ChainBody) (s : State) : Calm s (sendHandover p dst b s) :=
  calm_updatePort p (port_held_submitHandover _) s

theorem calm_sendToPeer (n : Option Byte) (b : ChainBody) (s : State) : Calm s (sendToPeer n b s) := by
  unfold sendToPeer
  split
  · exact .refl
  · split
    · exact .refl
    · exact calm_sendHandover _ _ _ s

theorem calm_sendPass (p : PortId) (hop : Byte) (b : PassBody) (s : State) : Calm s (sendPass p hop b s) :=
  calm_updatePort p (port_held_submitPass _) s

/-! ### Receive queues -/

theorem within_append {cfg : QueueSetting} {x : RxQueue} (r : Record) (hroom : x.records.length < cfg.depth) (h : x.Within cfg) :
    { x with records := x.records ++ [r.keepIn cfg.storage] : RxQueue }.Within cfg where
  depth := by simpa using hroom
  storage := by
    intro y hy
    rcases List.mem_append.mp hy with hy | hy
    · exact h.storage y hy
    · rw [List.mem_singleton.mp hy]
      exact List.length_take_le _ _
  lost := h.lost
  episode := fun hep => absurd (h.episode hep).1 (Nat.ne_of_lt hroom)

theorem within_lose {cfg : QueueSetting} {x : RxQueue} (hfull : ¬ x.records.length < cfg.depth) (h : x.Within cfg) :
    (x.lose cfg.depth).Within cfg where
  depth := h.depth
  storage := h.storage
  lost := Nat.min_le_right _ _
  episode := by
    intro hep
    refine ⟨le_antisymm h.depth (Nat.le_of_not_lt hfull), ?_⟩
    rcases Bool.or_eq_true _ _ ▸ hep with hold | hdepth
    · exact (h.episode hold).2
    · simpa using hdepth

theorem calm_setRx {q : Fin 4} {x : RxQueue} (within : (s.rx q).Within (s.queueSetting q) → x.Within (s.queueSetting q)) :
    Calm s (s.setRx q x) := .one (.rx q x within)

theorem calm_deposit (q : Fin 4) (r : Record) (s : State) : Calm s (deposit q r s) := by
  simp only [deposit]
  split
  · next hroom =>
    have hset := calm_setRx (within_append r hroom)
    split
    · exact hset.trans (calm_notify _ _)
    · exact hset
  · next hfull =>
    have hset := calm_setRx (within_lose hfull)
    split
    · exact hset.trans (calm_notify _ _)
    · exact hset

end

end Sys2Proof.Proofs
end

section
/-!
PROOFS. The round start (R16) and the engine's commands (01) as paths of moves.
-/
namespace Sys2Proof.Proofs
open Sys2Proof.Machine

section
variable {s : State} {i : Index}

/-! ### What is due at once -/

/-- The broadcast queue without its head, or with its head spent by one more beacon (R103). -/
theorem calm_broadcasts {bs : List Broadcast} (ids : (bs.map Broadcast.id).Sublist (s.broadcasts.map Broadcast.id)) :
    Calm s { s with broadcasts := bs } := by
  have hlen : bs.length ≤ s.broadcasts.length := by simpa using ids.length_le
  refine .one (.broadcasts bs s.nextBroadcast hlen.trans fun hs => ⟨hs.nextId, fun b hb => ?_, hs.uniqueIds.sublist ids⟩)
  obtain ⟨c, hc, heq⟩ := List.mem_map.mp (ids.subset (List.mem_map_of_mem hb))
  exact heq ▸ hs.ids c hc

theorem calm_finishBroadcast (s : State) : Calm s (finishBroadcast s) := by
  unfold finishBroadcast
  split
  · exact .refl
  · next b bs hb =>
    split
    · exact (calm_broadcasts (by rw [hb]; exact List.sublist_cons_self _ _)).trans (calm_notify _ _)
    · exact .refl

/-! ### Settings and counts -/

/-- The image kept, its pending values put into force (R172). -/
theorem calm_liveIntoForce (s : State) : Calm s (liveIntoForce s) :=
  .one (.settings s.image s.image.liveGroups Unapplied.none s.queues (fun hs => hs.airtime) (.inl rfl) (fun hu hd hs => hs hu hd)
    (fun _ => id) id fun hs => ⟨hs.grace.2.2, hs.grace.2.2⟩)

/-- An OFFERING entry sent back to ACTIVE (R112, R114). -/
theorem EntryEdit.backToActive (h : (s.entry i).state = .offering) : EntryEdit s i (s.entry i).backToActive where
  slotted := by rw [h]; rfl
  free := by rw [h]; exact ⟨nofun, nofun⟩
  holds := fun _ => .inr (.inl rfl)
  car := rfl
  granted := rfl
  cls := rfl
  vacant := fun hv => by simp [hv, Entry.vacant] at h
  handover := fun _ => ⟨rfl, rfl, rfl⟩
  peer := nofun
  unled := fun _ _ ⟨hc, hn, _⟩ => ⟨hc, hn, rfl⟩
  commands := .refl _

theorem calm_phaseExpired (i : Index) (s : State) : Calm s (phaseExpired i s) := by
  unfold phaseExpired
  split
  · next h => exact (calm_setEntry (.backToActive h)).trans (calm_notify _ _)
  · exact calm_freeEntry _ _ _ _
  · exact calm_freeEntry _ _ _ _
  · exact .refl

theorem calm_countPhase (i : Index) (s : State) : Calm s (countPhase i s) := by
  simp only [countPhase]
  split
  · exact calm_phaseExpired i s
  · exact calm_setEntry (.of_alike { phaseTimer := Option.isSome_map } (fun hv => .inl (by rw [hv]; rfl)) (.refl _))

theorem calm_countConfirm (i : Index) (s : State) : Calm s (countConfirm i s) := by
  simp only [countConfirm]
  split
  · exact calm_freeEntry _ _ _ _
  · exact calm_setEntry (.of_alike {} (fun hv => .inl (by rw [hv]; rfl)) (.refl _))

theorem calm_countBars (s : State) : Calm s (countBars s) := by
  refine calm_bars fun hs => ⟨?_, ?_, ?_⟩
  · exact (List.length_filter_le _ _).trans (by rw [List.length_map]; exact hs.bars)
  · have hsub := (List.filter_sublist (p := fun b : Bar => b.rounds != 0) (l := s.bars.map fun b => { b with rounds := b.rounds - 1 })).map Bar.car
    have hcars : (s.bars.map fun b => { b with rounds := b.rounds - 1 }).map Bar.car = s.bars.map Bar.car := by
      rw [List.map_map]; rfl
    exact (hcars ▸ hs.barCars).sublist hsub
  · intro b hb
    obtain ⟨hmem, hne⟩ := List.mem_filter.mp hb
    obtain ⟨c, hc, rfl⟩ := List.mem_map.mp hmem
    have hold := hs.barRounds c hc
    simp only [bne_iff_ne] at hne
    exact ⟨Nat.pos_of_ne_zero hne, by simp only; omega⟩

/-- Every pace count down, every age up (R96, R97). -/
theorem calm_countRounds (s : State) : Calm s (s.mapEntries Entry.countRound) :=
  calm_mapEntries fun i => .of_alike {} (fun hv => .inl (by rw [hv]; rfl)) 
    (.map (f := fun k => { k with age := saturate 65535 k.age }) (fun _ => ⟨rfl, .inr rfl, id⟩) _)

/-- The commands of an entry that a test picks removed and reported. -/
theorem calm_filterCommands (p : Command → Bool) (ns : List Notice) (i : Index) (s : State) :
    Calm s (notifyAll ns (s.setEntry i { s.entry i with commands := (s.entry i).commands.filter p })) :=
  (calm_setEntry (.of_alike {} (fun hv => .inl (by rw [hv]; rfl)) (.filter p _))).trans (calm_notifyAll _ _)

theorem calm_expireEntry (i : Index) (s : State) : Calm s (expireEntry i s) := calm_filterCommands _ _ i s

theorem calm_roundCounts (s : State) : Calm s (roundCounts s) :=
  (calm_forEach calm_countPhase s).trans <| (calm_forEach calm_countConfirm _).trans <| (calm_countBars _).trans <|
    (calm_countRounds _).trans (calm_forEach calm_expireEntry _)

/-! ### Class changes (R8, R9) -/

theorem slotLength_mono {pd pu : Code} {x y : RateClass} (h : x.auPerByte ≤ y.auPerByte) : slotLength pd pu x ≤ slotLength pd pu y := by
  simp only [slotLength, downlinkLength, uplinkLength]
  gcongr

/-- Entries with no longer slots give an order table with no longer airtime (R5). -/
theorem slotsAirtime_mono {pd : Code} {r r' : Vector Entry 24} {order : List Index}
    (h : ∀ i ∈ order, slotLength pd (r'[i.val]).granted (r'[i.val]).rate ≤ slotLength pd (r[i.val]).granted (r[i.val]).rate) :
    slotsAirtime pd r' order ≤ slotsAirtime pd r order := List.sum_le_sum h

/-- A vacant entry wants the class it has. -/
theorem wantedRate_vacant : Entry.vacant.wantedRate = Entry.vacant.rate := rfl

theorem not_slowerThan_self (x : RateClass) : x.slowerThan x = false := by simp [RateClass.slowerThan]

theorem ne_vacant_of_slowerThan {e : Entry} (h : e.rate.slowerThan e.wantedRate = true ∨ e.wantedRate.slowerThan e.rate = true) :
    e ≠ Entry.vacant := by
  rintro rfl
  rw [wantedRate_vacant, not_slowerThan_self] at h
  simp at h

theorem calm_applyClass (used : s.entry i ≠ Entry.vacant)
    (fits : s.RoundFits → (s.setEntry i { s.entry i with cls := some (s.entry i).wantedRate, rateHeld := false }).AirtimeFits) :
    Calm s (applyClass i s) := (Calm.one (.reclass i _ _ used fits)).trans (calm_notify _ _)

theorem calm_rateHeld (b : Bool) (h : s.entry i = Entry.vacant → b = false) :
    Calm s (s.setEntry i { s.entry i with rateHeld := b }) :=
  calm_setEntry (.of_alike {} (fun hv => .inl (by rw [h hv, hv]; rfl)) (.refl _))

/-- The class that an entry has leaves the airtime of the other entries as it is, so a faster one leaves no more in all. -/
theorem airtimeFits_faster {e : Entry} (hs : s.AirtimeFits)
    (h : slotLength s.image.round.pd e.granted e.rate ≤ slotLength s.image.round.pd (s.entry i).granted (s.entry i).rate) :
    (s.setEntry i e).AirtimeFits := by
  refine le_trans (Nat.add_le_add_left (slotsAirtime_mono fun j _ => ?_) _) hs
  have hj : ((s.setEntry i e).roster)[j.val] = (s.setEntry i e).entry j := rfl
  rw [hj, entry_setEntry]
  split
  · next hij => exact hij ▸ h
  · exact le_rfl

theorem calm_promoteEntry (i : Index) (s : State) : Calm s (promoteEntry i s) := by
  simp only [promoteEntry]
  split
  · next hfaster =>
    refine calm_applyClass (ne_vacant_of_slowerThan (.inl hfaster)) fun hs => airtimeFits_faster hs.airtime ?_
    have hlt : (s.entry i).wantedRate.auPerByte < (s.entry i).rate.auPerByte := by simpa [RateClass.slowerThan] using hfaster
    exact slotLength_mono hlt.le
  · split
    · exact .refl
    · exact calm_rateHeld false fun _ => rfl

theorem calm_holdDemotion (used : s.entry i ≠ Entry.vacant) : Calm s (holdDemotion i s) := by
  simp only [holdDemotion]
  have hset := calm_rateHeld (s := s) (i := i) true fun hv => absurd hv used
  split
  · exact hset
  · exact hset.trans (calm_notify _ _)

theorem airtime_setEntry_rateHeld (i : Index) (c : Option RateClass) (b : Bool) (s : State) :
    (s.setEntry i { s.entry i with cls := c, rateHeld := b }).airtime = (s.setEntry i { s.entry i with cls := c }).airtime := by
  simp only [State.airtime, State.airtimeWith, slotsAirtime]
  refine congrArg (_ + List.sum ·) (List.map_congr_left fun j _ => ?_)
  have hj : ∀ e : Entry, ((s.setEntry i e).roster)[j.val] = (s.setEntry i e).entry j := fun _ => rfl
  simp only [hj, entry_setEntry]
  split <;> rfl

theorem calm_demoteEntry (i : Index) (s : State) : Calm s (demoteEntry i s) := by
  simp only [demoteEntry]
  split
  · next hslower =>
    have hused := ne_vacant_of_slowerThan (.inr hslower)
    split
    · next hfits => exact calm_applyClass hused fun _ => (airtime_setEntry_rateHeld i _ false s).trans_le hfits
    · exact calm_holdDemotion hused
  · exact .refl

theorem calm_classChanges (s : State) : Calm s (classChanges s) :=
  (calm_foldl calm_promoteEntry s.order s).trans (calm_foldl calm_demoteEntry _ _)

/-! ### The round start -/

/-- The counts and the class changes that a round start begins with. -/
theorem calm_beforeBegin (s : State) : Calm s (classChanges (roundCounts (liveIntoForce s))) :=
  (calm_liveIntoForce s).trans ((calm_roundCounts _).trans (calm_classChanges _))

theorem path_startRound (s : State) : Path s (startRound s) := (Path.of_calm (calm_beforeBegin s)).tail .begin

theorem path_settle (s : State) : Path s (settle s) := by
  simp only [settle]
  have hfirst := Path.of_calm (calm_finishBroadcast s)
  split
  · exact hfirst.trans ((path_startRound _).trans (Path.of_calm (calm_finishBroadcast _)))
  · exact hfirst

/-- A round that begins while it is due leaves the engine and the radio in agreement: it begins only while OPEN. -/
theorem quietSound_beginRound (hr : s.inReset = false) (hdue : s.roundDue = true) (hs : s.QuietSound) : (beginRound s).QuietSound := by
  simp only [State.roundDue, Bool.and_eq_true, Bool.or_eq_true, beq_iff_eq, Bool.not_eq_true'] at hdue
  obtain ⟨⟨hstate, hopen⟩, -⟩ := hdue
  exact {
    ack := hs.ack
    rounds := fun h => absurd hopen h
    silent := by
      rintro (h | h)
      · exact absurd (hopen.symm.trans h) (by decide)
      · exact absurd (hr.symm.trans h) (by decide)
    opened := hs.opened
    claimed := hs.claimed
    resting := by
      intro h
      rcases hstate with h' | h' <;> rcases h with h | h <;> exact absurd (h'.symm.trans h) (by decide)
    stopping := fun _ => rfl }

theorem quietSound_startRound (hr : s.inReset = false) (hdue : s.roundDue = true) (hs : s.QuietSound) : (startRound s).QuietSound := by
  have hcore := (calm_beforeBegin s).sameCore
  exact quietSound_beginRound (hcore.inReset.trans hr) (hcore.roundDue.trans hdue) (hcore.quietSound hs)

theorem Calm.quietSound {t : State} (h : Calm s t) (hs : s.QuietSound) : t.QuietSound := h.sameCore.quietSound hs

theorem quietSound_settle (hr : s.inReset = false) (hs : s.QuietSound) : (settle s).QuietSound := by
  simp only [settle]
  have hfirst := calm_finishBroadcast s
  split
  · next hdue =>
    exact (calm_finishBroadcast _).quietSound (quietSound_startRound (hfirst.sameCore.inReset.trans hr) hdue (hfirst.quietSound hs))
  · exact hfirst.quietSound hs

theorem inReset_beginRound (s : State) : (beginRound s).inReset = s.inReset := rfl

@[simp] theorem inReset_startRound (s : State) : (startRound s).inReset = s.inReset :=
  (inReset_beginRound _).trans (calm_beforeBegin s).sameCore.inReset

@[simp] theorem inReset_settle (s : State) : (settle s).inReset = s.inReset := by
  have hfinish : ∀ t : State, (finishBroadcast t).inReset = t.inReset := fun t => (calm_finishBroadcast t).sameCore.inReset
  simp only [settle]
  split <;> simp [hfinish]

/-! ### How a command reaches the part -/

/-- What a command must be to keep every invariant: it follows a path, and quiet stays sound. -/
structure Reaches (s t : State) : Prop where
  path : Path s t
  quiet : s.QuietSound → t.QuietSound

theorem Reaches.of_calm {t : State} (h : Calm s t) : Reaches s t := ⟨.of_calm h, h.quietSound⟩

theorem Reaches.refl (s : State) : Reaches s s := .of_calm .refl

theorem Reaches.trans {t u : State} (h : Reaches s t) (h' : Reaches t u) : Reaches s u := ⟨h.path.trans h'.path, h'.quiet ∘ h.quiet⟩

/-- The state that a result holds is reached. -/
def ReachesIn (s : State) (r : Result) : Prop := ∀ t, r = .next t → Reaches s t

/-- A state in which an event is had: out of reset, no round start due. -/
structure Ready (s : State) : Prop where
  running : s.inReset = false
  settled : s.roundDue = false

theorem SameCore.ready {t : State} (h : SameCore s t) (hs : Ready s) : Ready t :=
  ⟨h.inReset.trans hs.running, h.roundDue.trans hs.settled⟩

theorem roundDue_beginRound (s : State) : (beginRound s).roundDue = false := by
  simp [State.roundDue, beginRound]

theorem roundDue_settle (s : State) : (settle s).roundDue = false := by
  simp only [settle]
  split
  · rw [(calm_finishBroadcast _).sameCore.roundDue]
    exact roundDue_beginRound _
  · next h => simpa using h

theorem ready_settle (h : s.inReset = false) : Ready (settle s) := ⟨(inReset_settle s).trans h, roundDue_settle s⟩

theorem reachesIn_onEvent {f : State → State} (h : ∀ u : State, Ready u → Reaches u (f u)) (s : State) :
    ReachesIn s (onEvent f s) := by
  rintro t ⟨⟩
  split
  · exact .refl s
  · next hr =>
    have hr : s.inReset = false := by simpa using hr
    exact Reaches.trans ⟨path_settle s, quietSound_settle hr⟩ (h _ (ready_settle hr))

theorem reachesIn_onRoundStart {f : State → State} (h : ∀ u : State, u.inReset = false → Reaches u (f u)) (s : State) :
    ReachesIn s (onRoundStart f s) := by
  rintro t ⟨⟩
  split
  · exact .refl s
  · next hr =>
    have hfirst := calm_finishBroadcast s
    exact (Reaches.of_calm hfirst).trans (h _ (hfirst.sameCore.inReset.trans (by simpa using hr)))

/-- What a decision must be: whatever its reply does to the control link, its effect then keeps every invariant. -/
def Decision.Reaches (d : Decision) (s : State) : Prop :=
  ∀ k : ControlLink, Proofs.Reaches { s with control := k } (d.effect { s with control := k })

theorem Decision.reaches_answer (x : Status) (body : List Byte) (s : State) : Decision.Reaches (.answer x body) s := fun _ => .refl _

theorem Decision.reaches_refuse (x : Status) (s : State) : Decision.Reaches (.refuse x) s := fun _ => .refl _

theorem reaches_receiveRequest (r : Request) (s : State) : Reaches s (receiveRequest r s) := by
  unfold receiveRequest
  split
  · exact .of_calm (calm_control Accounted.badFrame)
  · exact .of_calm (calm_control (Accounted.arrive r))

theorem reaches_takeRequest {r : Request} {d : State → Decision} (hwaits : s.control.waiting = some r)
    (h : Decision.Reaches (d s) s) : Reaches s (takeRequest r d s) := by
  simp only [takeRequest]
  have hanswer : ∀ x : Decision, Reaches s { s with control := s.control.answer (x.reply r) } := fun x =>
    .of_calm (calm_control (Accounted.answer rfl hwaits))
  split
  · exact hanswer _
  · exact (hanswer _).trans (h _)

theorem reaches_serve {d : State → Decision} (hs : Ready s) (h : ∀ u : State, Ready u → Decision.Reaches (d u) u) (r : Request) :
    Reaches s (serve r d s) := by
  have hfirst : Reaches s (if s.control.waiting = some r then s else receiveRequest r s) := by
    split
    · exact .refl s
    · exact reaches_receiveRequest r s
  have hcore : SameCore s (if s.control.waiting = some r then s else receiveRequest r s) := by
    unfold receiveRequest
    repeat' split
    all_goals exact ⟨rfl, rfl, rfl, rfl, rfl, rfl, rfl⟩
  unfold serve
  generalize (if s.control.waiting = some r then s else receiveRequest r s) = u at hfirst hcore ⊢
  dsimp only
  split
  · next hwaits => exact hfirst.trans (reaches_takeRequest hwaits (h _ (hcore.ready hs)))
  · exact hfirst

theorem reachesIn_onRequest {d : State → Decision} (h : ∀ u : State, Ready u → Decision.Reaches (d u) u) (c : Instr) (s : State) :
    ReachesIn s (onRequest c d s) :=
  reachesIn_onEvent (fun _ hu => reaches_serve hu h (rowRequest c)) s

end

end Sys2Proof.Proofs
end

section
/-!
PROOFS. The close of an uplink window (R72), the assessor's work in it, and the start of a slot (R24) as paths of moves.
-/
namespace Sys2Proof.Proofs
open Sys2Proof.Machine

section
variable {s : State} {i : Index}

/-! ### Plans -/

theorem PlanFollows.refl (s : State) (p : Plan) : PlanFollows s p p := fun q hq => ⟨q, hq, rfl, rfl, id, fun _ _ => .inl⟩

/-- What a plan becomes when one of its positions is changed in its progress alone. -/
theorem mem_updateAt {p : Plan} {k : Nat} {f : Position → Position} {q : Position} (h : q ∈ (p.updateAt k f).positions) :
    q ∈ p.positions ∨ ∃ q₀, p.positions[k]? = some q₀ ∧ q = f q₀ := by
  obtain ⟨n, hn⟩ := List.mem_iff_getElem?.mp h
  simp only [Plan.updateAt, List.getElem?_modify] at hn
  by_cases hkn : k = n
  · obtain ⟨q₀, hq₀, heq⟩ := Option.map_eq_some_iff.mp hn
    exact .inr ⟨q₀, hkn ▸ hq₀, by simpa [hkn] using heq.symm⟩
  · simp only [hkn, if_false, id_map'] at hn
    exact .inl (List.mem_of_getElem? (by simpa using hn))

theorem PlanFollows.updateAt {p : Plan} {k : Nat} {f : Position → Position}
    (h : ∀ q, p.positions[k]? = some q → (f q).index = q.index ∧ (f q).car = q.car ∧ ((f q).stale = false → q.stale = false) ∧
      (s.NumbersHeld → ∀ n, (f q).sent = .command n → q.sent = .command n ∨ ∀ i, ∀ c ∈ (s.entry i).commands, c.number = n → c.sent = true)) :
    PlanFollows s (p.updateAt k f) p := by
  intro q hq
  rcases mem_updateAt hq with hq | ⟨q₀, hq₀, rfl⟩
  · exact PlanFollows.refl s p q hq
  · exact ⟨q₀, List.mem_of_getElem? hq₀, h q₀ hq₀⟩

/-- One of the plans kept is changed as its windows close. -/
theorem calm_withPlanOf {ago : Fin 3} {p : Plan} (h : PlanFollows s p (s.engine.planOf ago)) : Calm s (s.withPlanOf ago p) := by
  match ago with
  | 0 => exact .one (.plans p s.engine.prev s.engine.older h (.refl s _) (.refl s _))
  | 1 => exact .one (.plans s.engine.plan p s.engine.older (.refl s _) h (.refl s _))
  | 2 => exact .one (.plans s.engine.plan s.engine.prev p (.refl s _) (.refl s _) h)

theorem calm_withPlan {p : Plan} (h : PlanFollows s p s.engine.plan) : Calm s (s.withPlan p) := calm_withPlanOf (ago := 0) h

/-- A window closed. -/
theorem planFollows_closed (s : State) (p : Plan) (k : Nat) : PlanFollows s (p.updateAt k fun q => { q with closed := true }) p :=
  .updateAt fun _ _ => ⟨rfl, rfl, id, fun _ _ => .inl⟩

/-! ### Routing and the survey report -/

theorem calm_routeBurst (round : RoundNumber) (p : Position) (b : Burst) (f : Nat × Nat) (s : State) :
    Calm s (routeBurst round p b f s) := by
  simp only [routeBurst]
  split
  · exact calm_deposit _ _ s
  · exact .refl
  · split
    · exact calm_sendPass _ _ _ s
    · exact calm_deposit _ _ s

@[simp] theorem engine_routeBurst (round : RoundNumber) (p : Position) (b : Burst) (f : Nat × Nat) (s : State) :
    (routeBurst round p b f s).engine = s.engine := by
  simp only [routeBurst]
  repeat' split
  all_goals simp

theorem calm_surveyReport (round : RoundNumber) (p : Position) (echo : List Byte) (f : Nat × Nat) (s : State) :
    Calm s (surveyReport round p echo f s) := by
  unfold surveyReport
  split
  · split
    · exact calm_deposit _ _ s
    · exact .refl
  · exact .refl

@[simp] theorem engine_surveyReport (round : RoundNumber) (p : Position) (echo : List Byte) (f : Nat × Nat) (s : State) :
    (surveyReport round p echo f s).engine = s.engine := by
  unfold surveyReport
  repeat' split
  all_goals simp

theorem calm_surveyNoEcho (round : RoundNumber) (p : Position) (m c : Nat) (s : State) : Calm s (surveyNoEcho round p m c s) :=
  calm_surveyReport _ _ _ _ s

/-- An edit of an entry that a plan names, standing alike: vacancy is no matter, since the entry is not FREE. -/
theorem calm_setEntry_named {e : Entry} (hn : Names s.engine i) (h : Alike e (s.entry i))
    (commands : Shrinks e.commands (s.entry i).commands := by exact Shrinks.refl _) : Calm s (s.setEntry i e) :=
  calm_setEntry (.of_alike h (fun _ => .inr hn) commands)

theorem calm_stageRoute {p : Position} (hn : Names s.engine p.index) (round : RoundNumber) (o : WindowOutcome) (f : Nat × Nat) :
    Calm s (stageRoute round p o f s) := by
  unfold stageRoute
  split
  · next b =>
    have hseq : Calm s (s.updateEntry p.index fun e => { e with lastSeq := some b.seq }) := calm_setEntry_named hn {}
    dsimp only
    split
    · exact hseq.trans (calm_surveyReport _ _ _ _ _)
    · exact hseq.trans ((calm_routeBurst _ _ _ _ _).trans (calm_surveyNoEcho _ _ _ _ _))
  · split <;> exact calm_surveyNoEcho _ _ _ _ s

@[simp] theorem engine_stageRoute (round : RoundNumber) (p : Position) (o : WindowOutcome) (f : Nat × Nat) (s : State) :
    (stageRoute round p o f s).engine = s.engine := by
  unfold stageRoute surveyNoEcho
  repeat' split
  all_goals simp

/-! ### The assessor -/

theorem portFacing_of_no_neighbours (hu : s.image.node.upNeighbour = 0) (hd : s.image.node.downNeighbour = 0) (n : Byte) :
    s.portFacing n = none := by
  unfold State.portFacing
  rw [hu, hd]
  split
  · rfl
  · simp

theorem neighbourReport_of_no_neighbours (hu : s.image.node.upNeighbour = 0) (hd : s.image.node.downNeighbour = 0) (b : Burst) :
    s.neighbourReport b = none := by
  simp [State.neighbourReport, portFacing_of_no_neighbours hu hd]

theorem alike_propose (l : LinkGroup) (e : Entry) : Alike (e.propose l) e := by
  unfold Entry.propose
  repeat' split
  all_goals exact {}

theorem commands_propose (l : LinkGroup) (e : Entry) : (e.propose l).commands = e.commands := by
  unfold Entry.propose
  repeat' split
  all_goals rfl

theorem standsAs_track (l : LinkGroup) (r : Option (Byte × Nat)) (e : Entry) : StandsAs (e.track l r) e := by
  unfold Entry.track
  split <;> exact {}

theorem commands_track (l : LinkGroup) (r : Option (Byte × Nat)) (e : Entry) : (e.track l r).commands = e.commands := by
  unfold Entry.track
  split <;> rfl

theorem StandsAs.trans {e e' e'' : Entry} (h : StandsAs e' e) (h' : StandsAs e'' e') : StandsAs e'' e where
  state := h'.state.trans h.state
  car := h'.car.trans h.car
  granted := h'.granted.trans h.granted
  cls := h'.cls.trans h.cls
  peer := h'.peer.trans h.peer
  phaseTimer := h'.phaseTimer.trans h.phaseTimer
  target := h'.target.trans h.target

/-- An ACTIVE entry that becomes OFFERING to a neighbour (R108). -/
theorem EntryEdit.offering {n : Byte} {timeout : Nat} (hactive : (s.entry i).state = .active) (hfacing : (s.portFacing n).isSome = true) :
    EntryEdit s i { s.entry i with state := .offering, peer := some n, phaseTimer := some timeout } where
  slotted := by rw [hactive]; rfl
  free := by rw [hactive]; exact ⟨nofun, nofun⟩
  holds := fun _ => .inr (.inr (.inl rfl))
  car := rfl
  granted := rfl
  cls := rfl
  vacant := fun hv => by simp [hv, Entry.vacant] at hactive
  handover := by
    rintro ⟨-, -, htarget⟩
    exact ⟨rfl, rfl, by rw [htarget, hactive]; rfl⟩
  peer := fun m hm => .inr (Option.some.inj hm ▸ hfacing)
  unled := fun _ _ => id
  commands := .refl _

theorem calm_requestHandover (hactive : (s.entry i).state = .active) : Calm s (requestHandover i s) := by
  simp only [requestHandover]
  split
  · exact calm_countWith s _
  · next n _ =>
    split
    · exact calm_countWith s _
    · next p hp =>
      split
      · have hsend := calm_sendHandover p n (.offer (s.entry i).offerBody) s
        refine hsend.trans (Calm.trans ?_ (calm_notify _ _))
        have hentry := entry_sendHandover s p n (.offer (s.entry i).offerBody) i
        rw [← hentry] at hactive
        have hfacing : ((sendHandover p n (.offer (s.entry i).offerBody) s).portFacing n).isSome = true := by
          have hsame : (sendHandover p n (.offer (s.entry i).offerBody) s).portFacing n = s.portFacing n := by
            simp [State.portFacing]
          rw [hsame, hp]
          rfl
        have hedit := calm_setEntry (EntryEdit.offering (timeout := s.live.handover.offerTimeout) hactive hfacing)
        rw [hentry] at hedit
        exact hedit
      · exact calm_countWith s _

@[simp] theorem engine_requestHandover (i : Index) (s : State) : (requestHandover i s).engine = s.engine := by
  simp only [requestHandover]
  repeat' split
  all_goals simp

/-- The handover trigger, at a node that has a neighbour. -/
theorem calm_triggerHandover (hactive : (s.entry i).state = .active)
    (hled : s.image.node.upNeighbour = 0 → s.image.node.downNeighbour ≠ 0) : Calm s (triggerHandover i s) := by
  have hused : s.entry i ≠ Entry.vacant := fun hv => by simp [hv, Entry.vacant] at hactive
  have hlead : ∀ n, Calm s (s.setEntry i { s.entry i with leadCount := n }) := fun n =>
    calm_setEntry (.of_standsAs {} (fun hv => absurd hv hused) (fun hu hd => absurd hd (hled hu)) (.refl _))
  simp only [triggerHandover]
  split
  · split
    · exact (hlead 0).trans (calm_requestHandover (by simpa using hactive))
    · exact hlead _
  · exact .refl

@[simp] theorem engine_triggerHandover (i : Index) (s : State) : (triggerHandover i s).engine = s.engine := by
  simp only [triggerHandover]
  repeat' split
  all_goals simp

theorem calm_assessWindow (hn : Names s.engine i) (heard : Option (Burst × Nat × Nat)) : Calm s (assessWindow i heard s) := by
  have hscore : ∀ n, Calm s (s.setEntry i ((s.entry i).updateScore n)) := fun n => calm_setEntry_named hn {}
  simp only [assessWindow]
  split
  · exact hscore _
  · exact hscore _
  · next hactive =>
    generalize hp : ((s.entry i).updateScore (sampleOf (heard.map Prod.snd))).propose s.live.link = e1
    have halike : Alike e1 ((s.entry i).updateScore (sampleOf (heard.map Prod.snd))) := hp ▸ alike_propose _ _
    have hstands : StandsAs e1 (s.entry i) := StandsAs.trans (e' := (s.entry i).updateScore (sampleOf (heard.map Prod.snd))) {} halike.toStandsAs
    have hcommands : e1.commands = (s.entry i).commands := by rw [← hp, commands_propose]; rfl
    split
    · exact calm_setEntry_named hn
        { toStandsAs := hstands, candidate := halike.candidate, nbrScore := halike.nbrScore, leadCount := halike.leadCount }
        (hcommands ▸ .refl _)
    · next b _ =>
      have htrack : Calm s (s.setEntry i (e1.track s.live.link (s.neighbourReport b))) := by
        refine calm_setEntry (.of_standsAs (hstands.trans (standsAs_track _ _ _)) (fun _ => .inr hn) (fun hu hd _ => ?_) ?_)
        · rw [neighbourReport_of_no_neighbours hu hd]
          exact ⟨rfl, rfl, rfl⟩
        · rw [commands_track, hcommands]
          exact .refl _
      split
      · next hreport =>
        refine htrack.trans (calm_triggerHandover ?_ ?_)
        · rw [entry_setEntry_self]
          exact ((standsAs_track _ _ _).state.trans hstands.state).trans hactive
        · intro hu hd
          rw [neighbourReport_of_no_neighbours (s := s) hu hd] at hreport
          exact absurd hreport (by decide)
      · exact htrack
  · exact .refl

@[simp] theorem engine_assessWindow (i : Index) (heard : Option (Burst × Nat × Nat)) (s : State) :
    (assessWindow i heard s).engine = s.engine := by
  simp only [assessWindow]
  repeat' split
  all_goals simp

/-! ### The pool and the roster -/

theorem calm_deliverCommand (hn : Names s.engine i) (k : Command) : Calm s (deliverCommand i k s) := by
  simp only [deliverCommand]
  have hset : Calm s (s.setEntry i { (s.entry i).without k.number with pace := s.live.downlink.pacing }) :=
    calm_setEntry_named hn {} (.filter _ _)
  split
  · exact hset.trans (calm_notify _ _)
  · exact hset

theorem calm_failSend (hn : Names s.engine i) (k : Command) : Calm s (failSend i k s) := by
  simp only [failSend]
  split
  · exact Calm.trans (calm_setEntry_named hn {} (.filter _ _)) (calm_notify _ _)
  · refine calm_setEntry_named hn {} (.map (fun c => ?_) _)
    split <;> exact ⟨rfl, .inr rfl, id⟩

theorem calm_stagePool {p : Position} (hn : Names s.engine p.index) (ack : Option Seq) : Calm s (stagePool p ack s) := by
  unfold stagePool
  split
  · split
    · exact .refl
    · split
      · exact calm_deliverCommand hn _
      · exact calm_failSend hn _
  · exact .refl

@[simp] theorem engine_stagePool (p : Position) (ack : Option Seq) (s : State) : (stagePool p ack s).engine = s.engine := by
  unfold stagePool deliverCommand failSend
  repeat' split
  all_goals (dsimp only; try split)
  all_goals rfl

theorem calm_heardWindow (hn : Names s.engine i) (round : RoundNumber) : Calm s (heardWindow round i s) := by
  unfold heardWindow
  dsimp only
  split
  · next hjoining =>
    have hj : (s.entry i).state = .joining := hjoining
    refine Calm.trans (calm_setEntry ?_) (calm_notify _ _)
    exact {
      slotted := by rw [hj]; rfl
      free := by rw [hj]; exact ⟨nofun, nofun⟩
      holds := fun _ => .inr (.inl rfl)
      car := rfl, granted := rfl, cls := rfl
      vacant := fun _ => .inr hn
      handover := fun ⟨hpeer, htimer, htarget⟩ => ⟨by rw [hj] at hpeer; exact hpeer, by rw [hj] at htimer; exact htimer, by rw [hj] at htarget; exact htarget⟩
      peer := fun n hpeer => .inl hpeer
      unled := fun _ _ => id
      commands := .refl _ }
  · next harriving =>
    have ha : (s.entry i).state = .arriving := harriving
    refine Calm.trans (calm_setEntry ?_) ((calm_sendToPeer _ _ _).trans (calm_notify _ _))
    exact {
      slotted := by rw [ha]; rfl
      free := by rw [ha]; exact ⟨nofun, nofun⟩
      holds := fun _ => .inr (.inl rfl)
      car := rfl, granted := rfl, cls := rfl
      vacant := fun _ => .inr hn
      handover := fun ⟨_, _, htarget⟩ => ⟨rfl, rfl, by rw [ha] at htarget; exact htarget⟩
      peer := nofun
      unled := fun _ _ => id
      commands := .refl _ }
  · exact calm_setEntry_named hn {}

theorem calm_departEntry (i : Index) (s : State) : Calm s (departEntry i s) := by
  simp only [departEntry]
  have hfree := calm_freeEntry i (some (.departed (s.entry i).car i (s.entry i).departReason (s.entry i).lastHeard)) .departed s
  split
  · exact hfree.trans (calm_sendToPeer _ _ _)
  · exact hfree

theorem calm_missedWindow (hn : Names s.engine i) (grace : Bool) : Calm s (missedWindow grace i s) := by
  simp only [missedWindow]
  split
  · have hmissed : Calm s (s.setEntry i { s.entry i with missed := (s.entry i).missed + 1 }) := calm_setEntry_named hn {}
    split
    · exact hmissed.trans (calm_departEntry _ _)
    · exact hmissed
  · exact .refl

/-! ### The close of a window -/

theorem alike_countWindow (o : WindowOutcome) (c : Nat) (e : Entry) : Alike (e.countWindow o c) e := by
  unfold Entry.countWindow
  split <;> exact {}

theorem commands_countWindow (o : WindowOutcome) (c : Nat) (e : Entry) : (e.countWindow o c).commands = e.commands := by
  unfold Entry.countWindow
  split <;> rfl

theorem calm_closeWindow {p : Position} (hn : p.stale = false → Names s.engine p.index) (round : RoundNumber) (grace : Bool) (r : UplinkResult) :
    Calm s (closeWindow round grace p r s) := by
  simp only [closeWindow]
  generalize classify p (s.entry p.index) r = o
  have hcount := calm_countWith s (NodeCounters.window o (resultFigures r).2)
  split
  · exact hcount
  · next hlive =>
    have hn := hn (by simpa using hlive)
    have hupdate : Calm (s.countWith (NodeCounters.window o (resultFigures r).2))
        ((s.countWith (NodeCounters.window o (resultFigures r).2)).updateEntry p.index (Entry.countWindow o (resultFigures r).2)) :=
      calm_setEntry_named hn (alike_countWindow _ _ _) (by rw [commands_countWindow]; exact .refl _)
    refine hcount.trans (hupdate.trans ?_)
    refine (calm_stageRoute (by simpa using hn) round o (resultFigures r)).trans ?_
    refine (calm_assessWindow (by simpa using hn) (o.heard.map fun b => (b, resultFigures r))).trans ?_
    refine (calm_stagePool (by simpa using hn) (o.heard.bind Burst.ack)).trans ?_
    split
    · exact calm_heardWindow (by simpa using hn) _
    · exact calm_missedWindow (by simpa using hn) _

/-- The plan in which a window has closed still has its position. -/
theorem names_closed {ago : Fin 3} {k : Nat} {q : Position} (hq : (s.engine.planOf ago).positions[k]? = some q) (hlive : q.stale = false) :
    Names (s.withPlanOf ago ((s.engine.planOf ago).updateAt k fun q => { q with closed := true })).engine q.index := by
  refine ⟨ago, { q with closed := true }, ?_, hlive, rfl⟩
  rw [planOf_withPlanOf, if_pos rfl]
  exact List.mem_of_getElem? (i := k) (by simp [Plan.updateAt, hq])

theorem calm_closeAt (ago : Fin 3) (k : Nat) (r : UplinkResult) (s : State) : Calm s (closeAt ago k r s) := by
  simp only [closeAt]
  split
  · exact .refl
  · next q hq =>
    split
    · exact .refl
    · exact (calm_withPlanOf (planFollows_closed s _ k)).trans (calm_closeWindow (names_closed hq) _ _ _)

/-! ### A slot -/

theorem chooseSegment_cases (pd : Code) (g : PatternGroup) (e : Entry) :
    ((chooseSegment pd g e).entry = e ∧ ∀ n, (chooseSegment pd g e).sent = .command n →
      ∃ k ks, e.commands = k :: ks ∧ k.number = n ∧ k.seqUsed ≠ none) ∨
    ∃ k ks, e.commands = k :: ks ∧ (chooseSegment pd g e).sent = .command k.number ∧
      (chooseSegment pd g e).entry =
        { e with nextSeq := e.nextSeq + 1, commands := { k with seqUsed := some e.nextSeq, sent := true } :: ks } := by
  unfold chooseSegment Segment.idle
  split
  · exact .inl ⟨rfl, nofun⟩
  split
  · exact .inl ⟨rfl, nofun⟩
  split
  · exact .inl ⟨rfl, nofun⟩
  next k ks hcs =>
  split
  · next q hq => exact .inl ⟨rfl, fun n hn => ⟨k, ks, hcs, SentContent.command.inj hn, by simp [hq]⟩⟩
  · split
    · exact .inr ⟨k, ks, hcs, rfl, rfl⟩
    · exact .inl ⟨rfl, nofun⟩

/-- With the numbers of the pool distinct, a command that is the head of a list is the only one of its number. -/
theorem eq_of_number_eq (hs : s.NumbersHeld) {i j : Index} {k c : Command} (hk : k ∈ (s.entry i).commands) (hc : c ∈ (s.entry j).commands)
    (h : c.number = k.number) : c = k := by
  obtain ⟨hlists, hdisjoint⟩ := List.nodup_flatMap.mp hs.unique
  have hij : i = j := by
    by_contra hne
    have hsymm : Std.Symm (Function.onFun List.Disjoint fun i => (s.entry i).commands.map Command.number) := ⟨fun _ _ => List.Disjoint.symm⟩
    have hd := hdisjoint.forall (List.mem_finRange i) (List.mem_finRange j) hne
    exact hd (List.mem_map_of_mem hk) (h ▸ List.mem_map_of_mem hc)
  subst hij
  exact List.inj_on_of_nodup_map (hlists i (List.mem_finRange i)) hc hk h

theorem path_beginSlot (k : Nat) (s : State) : Path s (beginSlot k s) := by
  unfold beginSlot
  split
  · exact .refl
  next p hp =>
  split
  · exact .refl
  split
  · exact .of_calm (calm_withPlan (.updateAt fun _ _ => ⟨rfl, rfl, id, fun _ _ => .inl⟩))
  dsimp only
  generalize hg : chooseSegment s.image.round.pd s.live.pattern (s.entry p.index) = g
  have hentry : Calm s (s.setEntry p.index g.entry) ∧ ∀ n, g.sent = .command n → (s.setEntry p.index g.entry).NumbersHeld →
      ∀ i, ∀ c ∈ ((s.setEntry p.index g.entry).entry i).commands, c.number = n → c.sent = true := by
    rcases chooseSegment_cases s.image.round.pd s.live.pattern (s.entry p.index) with ⟨hsame, hsent⟩ | ⟨c, cs, hcs, hsent, hnew⟩
    · rw [hg] at hsame hsent
      rw [hsame]
      refine ⟨calm_setEntry (.refl s p.index), fun n hn hs i d hd hnum => ?_⟩
      obtain ⟨c, cs, hcs, hcn, hused⟩ := hsent n hn
      have hc : c ∈ ((s.setEntry p.index (s.entry p.index)).entry p.index).commands := by
        rw [entry_setEntry_self, hcs]
        exact .head _
      rw [eq_of_number_eq hs hc hd (hnum.trans hcn.symm)]
      exact hs.outstanding _ _ hc hused
    · rw [hg] at hsent hnew
      rw [hnew]
      refine ⟨.one (.carry p.index c cs _ _ hcs), fun n hn hs i d hd hnum => ?_⟩
      have hc : { c with seqUsed := some (s.entry p.index).nextSeq, sent := true } ∈ ((s.setEntry p.index
          { s.entry p.index with
            nextSeq := (s.entry p.index).nextSeq + 1
            commands := { c with seqUsed := some (s.entry p.index).nextSeq, sent := true } :: cs }).entry p.index).commands := by
        rw [entry_setEntry_self]
        exact .head _
      have hcn : c.number = n := SentContent.command.inj (hsent.symm.trans hn)
      rw [eq_of_number_eq hs hc hd (hnum.trans hcn.symm)]
  obtain ⟨hcalm, hsent⟩ := hentry
  have hplan : Calm (s.setEntry p.index g.entry) ((s.setEntry p.index g.entry).withPlan
      (s.engine.plan.updateAt k fun q => { q with started := true, sent := g.sent })) :=
    calm_withPlan (.updateAt fun q _ => ⟨rfl, rfl, id, fun hs n hn => .inr (hsent n hn hs)⟩)
  exact (Path.of_calm (hcalm.trans hplan)).tail
    (.recore s.inReset s.quiet s.engine.state s.engine.round s.engine.resumePending s.engine.inProgress (some (g.burst p)))

/-- A slot begins only in a round in progress, so that the radio is used only while OPEN. -/
theorem quietSound_beginSlot (k : Nat) (hr : s.inReset = false) (hs : s.QuietSound) : (beginSlot k s).QuietSound := by
  unfold beginSlot
  split
  · exact hs
  split
  · exact hs
  next hprogress =>
  split
  · exact { hs with }
  · have hopen : s.quiet.state = .opened := by
      by_contra h
      exact hprogress (.inl (hs.rounds h))
    have hnot : ¬ (s.quiet.state = .silent ∨ s.inReset = true) := by simp [hopen, hr]
    exact { hs with silent := fun h => absurd h hnot }

theorem reaches_beginSlot (k : Nat) (hr : s.inReset = false) : Reaches s (beginSlot k s) :=
  ⟨path_beginSlot k s, quietSound_beginSlot k hr⟩

end

end Sys2Proof.Proofs
end

section
/-!
PROOFS. The round engine (1.5) and blast quiet (08): what changes the engine's state, the radio and the quiet controller.
-/
namespace Sys2Proof.Proofs
open Sys2Proof.Machine

section
variable {s : State}

/-! ### The engine -/

/-- A change of the engine's state, the radio, the quiet controller or RESET that keeps quiet sound. -/
theorem Reaches.recore (r : Bool) (q : Quiet) (x : EngineState) (n : RoundNumber) (p g : Bool) (o : Option RadioBurst)
    (h : s.QuietSound → State.QuietSound { s with
      inReset := r, quiet := q
      engine := { s.engine with state := x, round := n, resumePending := p, inProgress := g, radio := o } }) :
    Reaches s { s with
      inReset := r, quiet := q
      engine := { s.engine with state := x, round := n, resumePending := p, inProgress := g, radio := o } } :=
  ⟨.single (.recore r q x n p g o), h⟩

/-- A change of the engine's state, its resume flag, its progress and the radio alone. -/
theorem Reaches.engine (x : EngineState) (p g : Bool) (o : Option RadioBurst)
    (h : s.QuietSound → State.QuietSound { s with
      engine := { s.engine with state := x, resumePending := p, inProgress := g, radio := o } }) :
    Reaches s { s with engine := { s.engine with state := x, resumePending := p, inProgress := g, radio := o } } :=
  .recore s.inReset s.quiet x s.engine.round p g o h

theorem reaches_notify (n : Notice) (s : State) : Reaches s (notify n s) := .of_calm (calm_notify n s)

theorem reaches_startEngine (h : s.engine.state = .stopped) : Reaches s (startEngine s) := by
  refine Reaches.engine _ true s.engine.inProgress s.engine.radio fun hs => ?_
  exact { hs with
    resting := fun _ => hs.resting (.inl h)
    stopping := fun hx => by cases hm : s.image.round.mode <;> simp [hm] at hx }

theorem reaches_enterStopped (h : s.QuietSound → s.engine.inProgress = false) : Reaches s (enterStopped s) := by
  refine (Reaches.engine .stopped s.engine.resumePending s.engine.inProgress s.engine.radio fun hs => ?_).trans (reaches_notify _ _)
  exact { hs with resting := fun _ => h hs, stopping := nofun }

theorem reaches_stopEngine (hr : s.roundDue = false) : Reaches s (stopEngine s) := by
  unfold stopEngine
  split
  · next hrun hopen =>
    refine Reaches.engine .stopping s.engine.resumePending s.engine.inProgress s.engine.radio fun hs => ?_
    refine { hs with resting := by simp, stopping := fun _ => ?_ }
    simpa [State.roundDue, hrun, hopen] using hr
  · next hrun hopen => exact reaches_enterStopped fun hs => hs.rounds fun h => hopen h
  · next hrun hopen =>
    refine Reaches.engine .stopping s.engine.resumePending s.engine.inProgress s.engine.radio fun hs => ?_
    refine { hs with resting := by simp, stopping := fun _ => ?_ }
    simpa [State.roundDue, hrun, hopen] using hr
  · next hpaused => exact reaches_enterStopped fun hs => hs.resting (.inr hpaused)
  · exact .refl s

theorem reaches_stepEngine : Reaches s (stepEngine s) := by
  refine Reaches.engine .stepping s.engine.resumePending s.engine.inProgress s.engine.radio fun hs => ?_
  exact { hs with resting := by simp, stopping := nofun }

theorem reaches_decideStart (s : State) : Decision.Reaches (decideStart s) s := by
  unfold decideStart
  split
  · next h =>
    split
    · exact Decision.reaches_refuse _ _
    · exact fun k => reaches_startEngine (s := { s with control := k }) h
  · exact Decision.reaches_refuse _ _
  all_goals exact Decision.reaches_refuse _ _

theorem reaches_decideStop (hs : Ready s) : Decision.Reaches (decideStop s) s := fun k =>
  reaches_stopEngine (s := { s with control := k }) hs.settled

theorem reaches_decideStep (s : State) : Decision.Reaches (decideStep s) s := by
  unfold decideStep
  split
  · exact fun k => reaches_stepEngine
  all_goals exact Decision.reaches_refuse _ _

theorem reaches_startDueRound (hr : s.inReset = false) : Reaches s (startDueRound s) := by
  unfold startDueRound
  split
  · next hdue => exact ⟨path_startRound s, quietSound_startRound hr hdue⟩
  · exact .refl s

theorem reaches_whenDue {runsOut : State → Bool} {f : State → State} (h : runsOut s = true → Calm s (f s)) : Reaches s (whenDue runsOut f s) := by
  unfold whenDue
  split
  · next hdue => exact .of_calm (h (Bool.and_eq_true _ _ ▸ hdue).2)
  · exact .refl s

theorem reaches_completeRound (s : State) : Reaches s (completeRound s) := by
  unfold completeRound
  split
  · dsimp only
    split
    · refine Reaches.trans (Reaches.engine .stopped s.engine.resumePending false none fun hs => ?_) (reaches_notify _ _)
      exact { hs with rounds := fun _ => rfl, silent := fun _ => rfl, resting := fun _ => rfl, stopping := nofun }
    · refine Reaches.trans (Reaches.engine .paused s.engine.resumePending false none fun hs => ?_) (reaches_notify _ _)
      exact { hs with rounds := fun _ => rfl, silent := fun _ => rfl, resting := fun _ => rfl, stopping := nofun }
    · next hstopping _ =>
      refine Reaches.engine s.engine.state s.engine.resumePending false none fun hs => ?_
      exact { hs with rounds := fun _ => rfl, silent := fun _ => rfl, resting := fun _ => rfl, stopping := fun h => absurd h hstopping }
  · exact .refl s

/-! ### Quiet -/

/-- The controller enters SILENT with a claim held and no round in progress. -/
theorem quietSound_enterSilent (hr : s.inReset = false) (hclaimed : s.quiet.claimed = true) (hidle : s.engine.inProgress = false)
    (hstate : s.engine.state ≠ .stopping) : (enterSilent s).QuietSound where
  ack := by simp [enterSilent, hr]
  rounds := fun _ => hidle
  silent := fun _ => rfl
  opened := nofun
  claimed := fun _ => hclaimed
  resting := fun _ => hidle
  stopping := fun h => absurd h hstate

theorem path_enterSilent (s : State) : Path s (enterSilent s) :=
  (Relation.ReflTransGen.single (Stage.recore s.inReset { s.quiet with state := .silent, timer := 0, ack := true } s.engine.state
    s.engine.round s.engine.resumePending s.engine.inProgress none)).trans (Path.of_calm (calm_notify _ _))

theorem calm_settleWindow (m : Moment) (k : Nat) (s : State) : Calm s (settleWindow m k s) := by
  unfold settleWindow
  split
  · exact .refl
  split
  · exact .refl
  split
  · exact .refl
  dsimp only
  split
  · exact (calm_withPlan (planFollows_closed s _ k)).trans (calm_surveyNoEcho _ _ _ _ _)
  · exact calm_withPlan (planFollows_closed s _ k)

theorem calm_settleWindows (m : Moment) (s : State) : Calm s (settleWindows m s) :=
  (calm_foldl (calm_settleWindow m) _ s).trans (calm_withPlan fun q hq => ⟨q, hq, rfl, rfl, id, fun _ _ => .inl⟩)

theorem path_abandonRound (m : Moment) (s : State) : Path s (abandonRound m s) := by
  have hfirst := Path.of_calm (calm_settleWindows m s)
  have hengine : ∀ x, Path s { settleWindows m s with engine := { (settleWindows m s).engine with inProgress := false, state := x } } := fun x =>
    hfirst.tail (.recore (settleWindows m s).inReset (settleWindows m s).quiet x (settleWindows m s).engine.round
      (settleWindows m s).engine.resumePending false (settleWindows m s).engine.radio)
  simp only [abandonRound]
  split
  · exact (hengine .stopped).trans (Path.of_calm (calm_notify _ _))
  · exact (hengine .paused).trans (Path.of_calm (calm_notify _ _))
  · exact hengine _

/-- What abandoning a round does to the engine's state, and what it leaves to the radio and to the quiet controller (R23). -/
structure Abandoned (s t : State) : Prop where
  inReset : t.inReset = s.inReset
  quiet : t.quiet = s.quiet
  radio : t.engine.radio = s.engine.radio
  idle : t.engine.inProgress = false
  notStopping : t.engine.state ≠ .stopping

theorem abandoned_abandonRound (m : Moment) (s : State) : Abandoned s (abandonRound m s) := by
  have hcore := (calm_settleWindows m s).sameCore
  simp only [abandonRound]
  split
  · exact ⟨hcore.inReset, hcore.quiet, hcore.radio, rfl, nofun⟩
  · exact ⟨hcore.inReset, hcore.quiet, hcore.radio, rfl, nofun⟩
  · next hstopping _ => exact ⟨hcore.inReset, hcore.quiet, hcore.radio, rfl, hstopping⟩

theorem path_claimArrived (m : Moment) (s : State) : Path s (claimArrived m s) := by
  unfold claimArrived
  split
  · exact .refl
  · have hresume : Path s { s with engine := { s.engine with resumePending := true } } :=
      .single (.recore s.inReset s.quiet s.engine.state s.engine.round true s.engine.inProgress s.engine.radio)
    have hround : Path s (if s.engine.inProgress then abandonRound m { s with engine := { s.engine with resumePending := true } }
        else { s with engine := { s.engine with resumePending := true } }) := by
      split
      · exact hresume.trans (path_abandonRound m _)
      · exact hresume
    dsimp only
    generalize (if s.engine.inProgress then abandonRound m { s with engine := { s.engine with resumePending := true } }
      else { s with engine := { s.engine with resumePending := true } }) = u at hround ⊢
    split
    · exact hround.tail (.recore u.inReset { u.quiet with state := .draining } u.engine.state u.engine.round u.engine.resumePending
        u.engine.inProgress u.engine.radio)
    · exact hround.trans (path_enterSilent u)

/-- A claim recorded and acted on keeps quiet sound: the state just after it is recorded is not sound, the state it leads to is. -/
theorem quietSound_claimArrived (m : Moment) {q : Quiet} (hr : s.inReset = false) (hstate : q.state = s.quiet.state) (hack : q.ack = s.quiet.ack)
    (hclaimed : q.claimed = true) (hs : s.QuietSound) : (claimArrived m { s with quiet := q }).QuietSound := by
  unfold claimArrived
  dsimp only
  split
  · next hopen =>
    exact {
      ack := by simp only [hack, hstate]; exact hs.ack
      rounds := fun _ => hs.rounds (hstate ▸ hopen)
      silent := fun h => hs.silent (hstate ▸ h)
      opened := fun h => absurd h hopen
      claimed := fun _ => hclaimed
      resting := hs.resting
      stopping := hs.stopping }
  · next hopen =>
    have hopen : q.state = .opened := by simpa using hopen
    have hmid : Abandoned { s with quiet := q } (if s.engine.inProgress then
        abandonRound m { s with quiet := q, engine := { s.engine with resumePending := true } }
        else { s with quiet := q, engine := { s.engine with resumePending := true } }) := by
      split
      · obtain ⟨a, b, c, d, e⟩ := abandoned_abandonRound m { s with quiet := q, engine := { s.engine with resumePending := true } }
        exact ⟨a, b, c, d, e⟩
      · next hidle =>
        have hidle : s.engine.inProgress = false := by simpa using hidle
        exact ⟨rfl, rfl, rfl, hidle, fun h => absurd (hs.stopping h) (by simp [hidle])⟩
    generalize (if s.engine.inProgress then
        abandonRound m { s with quiet := q, engine := { s.engine with resumePending := true } }
        else { s with quiet := q, engine := { s.engine with resumePending := true } }) = u at hmid ⊢
    have hrunning : u.inReset = false := hmid.inReset.trans hr
    split
    · have hackOff : u.quiet.ack = false := by
        rw [hmid.quiet, show ({ s with quiet := q } : State).quiet.ack = s.quiet.ack from hack, hs.ack, ← hstate, hopen]
        rfl
      exact {
        ack := hackOff
        rounds := fun _ => hmid.idle
        silent := by simp [hrunning]
        opened := nofun
        claimed := nofun
        resting := fun _ => hmid.idle
        stopping := fun h => absurd h hmid.notStopping }
    · exact quietSound_enterSilent hrunning (by rw [hmid.quiet]; exact hclaimed) hmid.idle hmid.notStopping

/-- A claim arrives, as the quiet controller then holds it. -/
theorem reaches_claimArrived (m : Moment) {q : Quiet} (hr : s.inReset = false) (hstate : q.state = s.quiet.state) (hack : q.ack = s.quiet.ack)
    (hclaimed : q.claimed = true) : Reaches s (claimArrived m { s with quiet := q }) where
  path := (Path.of_calm .refl).trans ((Relation.ReflTransGen.single (Stage.recore s.inReset q s.engine.state s.engine.round
    s.engine.resumePending s.engine.inProgress s.engine.radio)).trans (path_claimArrived m _))
  quiet := quietSound_claimArrived m hr hstate hack hclaimed

/-- A claim withdrawn, as the quiet controller then holds what is left. -/
theorem reaches_claimWithdrawn {q : Quiet} (hstate : q.state = s.quiet.state) (hack : q.ack = s.quiet.ack)
    (hclaimed : q.claimed = true → s.quiet.claimed = true) : Reaches s (claimWithdrawn { s with quiet := q }) := by
  have hopened : s.QuietSound → q.state = .opened → q.claimed = false := fun hs h => by
    have hnone := hs.opened (hstate ▸ h)
    cases hq : q.claimed
    · rfl
    · exact absurd (hclaimed hq) (by simp [hnone])
  unfold claimWithdrawn
  split
  · next hend =>
    refine Reaches.trans (Reaches.recore s.inReset { q with state := .opened, ack := false } s.engine.state s.engine.round
      s.engine.resumePending s.engine.inProgress s.engine.radio fun hs => ?_) (reaches_notify _ _)
    have hsilent : s.quiet.state = .silent := hstate ▸ hend.1
    exact {
      ack := rfl
      rounds := fun h => absurd rfl h
      silent := fun _ => hs.silent (.inl hsilent)
      opened := fun _ => hend.2
      claimed := nofun
      resting := hs.resting
      stopping := hs.stopping }
  · next hend =>
    refine Reaches.recore s.inReset q s.engine.state s.engine.round s.engine.resumePending s.engine.inProgress s.engine.radio fun hs => ?_
    exact {
      ack := by simp only [hack, hstate]; exact hs.ack
      rounds := fun h => hs.rounds (hstate ▸ h)
      silent := fun h => hs.silent (hstate ▸ h)
      opened := hopened hs
      claimed := fun h => by
        by_contra hnone
        exact hend ⟨h, by simpa using hnone⟩
      resting := hs.resting
      stopping := hs.stopping }

theorem reaches_lineArrives (m : Moment) (hr : s.inReset = false) : Reaches s (lineArrives m s) := by
  unfold lineArrives
  split
  · exact .refl s
  · exact reaches_claimArrived m hr rfl rfl rfl

theorem reaches_lineWithdrawn (s : State) : Reaches s (lineWithdrawn s) := by
  unfold lineWithdrawn
  split
  · next h => exact reaches_claimWithdrawn rfl rfl fun _ => by simp [Quiet.claimed, h]
  · exact .refl s

theorem reaches_setHostClaim (on : Bool) (m : Moment) (hr : s.inReset = false) : Reaches s (setHostClaim on m s) := by
  unfold setHostClaim
  split
  · exact .refl s
  · next hnew =>
    dsimp only
    split
    · next hon => exact reaches_claimArrived m hr rfl rfl (by simp [Quiet.claimed, hon])
    · next hoff =>
      refine reaches_claimWithdrawn rfl rfl fun h => ?_
      have hline : s.quiet.lineClaim = true := by simpa [Quiet.claimed, hoff] using h
      simp [Quiet.claimed, hline]

theorem reaches_decideQuiet (value : Byte) (m : Moment) (hs : Ready s) : Decision.Reaches (decideQuiet value m s) s := by
  unfold decideQuiet
  split
  · exact fun k => reaches_setHostClaim (s := { s with control := k }) _ m hs.running
  · exact Decision.reaches_refuse _ _

theorem reaches_drained (hr : s.inReset = false) : Reaches s (drained s) := by
  unfold drained
  split
  · next hdraining =>
    have hidle : s.QuietSound → s.engine.inProgress = false := fun hs => hs.rounds (by simp [hdraining])
    dsimp only
    split
    · next hclaimed =>
      refine ⟨?_, fun hs => quietSound_enterSilent hr hclaimed (hidle hs) fun h => ?_⟩
      · exact (Relation.ReflTransGen.single (Stage.recore s.inReset s.quiet s.engine.state s.engine.round s.engine.resumePending
          s.engine.inProgress none)).trans (path_enterSilent _)
      · exact absurd (hs.stopping h) (by simp [hidle hs])
    · next hnone =>
      refine Reaches.recore s.inReset { s.quiet with state := .opened } s.engine.state s.engine.round s.engine.resumePending
        s.engine.inProgress none fun hs => ?_
      exact {
        ack := by
          rw [show ({ s.quiet with state := .opened } : Quiet).ack = s.quiet.ack from rfl, hs.ack, hdraining]
          rfl
        rounds := fun h => absurd rfl h
        silent := fun _ => rfl
        opened := fun _ => (Bool.not_eq_true _).mp hnone
        claimed := nofun
        resting := hs.resting
        stopping := hs.stopping }
  · exact .refl s

theorem reaches_breach (car : Option CarNumber) (silent : Bool) (s : State) : Reaches s (breach car silent s) :=
  (Reaches.of_calm (calm_countWith s _)).trans (reaches_notify _ _)

theorem reaches_tickQuiet (s : State) : Reaches s (tickQuiet s) := by
  unfold tickQuiet
  split
  · refine Reaches.recore s.inReset { s.quiet with timer := saturate 65535 s.quiet.timer } s.engine.state s.engine.round
      s.engine.resumePending s.engine.inProgress s.engine.radio fun hs => ?_
    exact { hs with }
  · exact .refl s

end

end Sys2Proof.Proofs
end

section
/-!
PROOFS. The car roster (02), the command pool (05), the receive queues (4.5) and the counters (9.2) as paths of moves.
-/
namespace Sys2Proof.Proofs
open Sys2Proof.Machine

/-! ### Requests whose effect is calm -/

section
variable {s : State} {i : Index}

/-- A decision whose effect is a calm path from wherever its reply left the control link. -/
theorem Decision.reaches_of_calm {d : Decision} (h : ∀ k, Calm { s with control := k } (d.effect { s with control := k })) :
    Decision.Reaches d s := fun k => .of_calm (h k)

theorem reaches_forCar {car : CarNumber} {d : State → Decision} (h : car ≠ 0 → Decision.Reaches (d s) s) :
    Decision.Reaches (forCar car d s) s := by
  unfold forCar
  split
  · exact Decision.reaches_refuse _ _
  · next hcar => exact h hcar

theorem reaches_forQueue {q : Byte} {d : Fin 4 → State → Decision} (h : ∀ q, Decision.Reaches (d q s) s) :
    Decision.Reaches (forQueue q d s) s := by
  unfold forQueue
  split
  · exact h _
  · exact Decision.reaches_refuse _ _

/-! ### Admission -/

/-- The allowance granted fits (R7). -/
theorem fitsOneMore_of_grantFrom {cls : RateClass} {n : Nat} {code : Code} (h : grantFrom s cls n = some code) :
    s.fitsOneMore code cls = true := by
  induction n with
  | zero => exact absurd h nofun
  | succ n ih =>
    unfold grantFrom at h
    split at h
    · next hfits => exact Option.some.inj h ▸ hfits
    · exact ih h

theorem fitsOneMore_of_grant {requested code : Code} {cls : RateClass} (h : s.grant requested cls = some code) :
    s.fitsOneMore code cls = true := fitsOneMore_of_grantFrom h

/-- An entry as an admission sets it up, for a car that only the entry it replaces may hold. -/
theorem newEntry_admitted {car : CarNumber} (hcar : car ≠ 0) (code : Code) (cls : RateClass) (sample : Nat) (at_ : RoundNumber)
    (hfresh : s.CarsDistinct → ∀ j, j ≠ i → (s.entry j).state ≠ .free → (s.entry j).car ≠ car) :
    NewEntry s i (admittedEntry car code cls sample at_) :=
  ⟨hcar, hfresh, ⟨rfl, rfl, rfl⟩, nofun, ⟨rfl, rfl, rfl⟩, rfl⟩

/-- No entry holds a car that is not found. -/
theorem fresh_of_findCar_none {car : CarNumber} (h : s.findCar car = none) :
    s.CarsDistinct → ∀ j, j ≠ i → (s.entry j).state ≠ .free → (s.entry j).car ≠ car := fun _ j _ => findCar_none h j

/-- No entry but the one found holds a car. -/
theorem fresh_of_findCar_some {car : CarNumber} (h : s.findCar car = some i) :
    s.CarsDistinct → ∀ j, j ≠ i → (s.entry j).state ≠ .free → (s.entry j).car ≠ car := by
  obtain ⟨hused, hcar⟩ := findCar_some h
  exact fun hs j hne hj hsame => hne (hs.2 j i hj hused (hsame.trans hcar.symm))

theorem calm_admitAt {car : CarNumber} {code : Code} {cls : RateClass} {sample : Nat} {at_ : RoundNumber}
    (place : (s.entry i).state.slotted = false) (hcar : car ≠ 0)
    (hfresh : s.CarsDistinct → ∀ j, j ≠ i → (s.entry j).state ≠ .free → (s.entry j).car ≠ car)
    (fits : s.fitsOneMore code cls = true) : Calm s (admitAt i (admittedEntry car code cls sample at_) s) :=
  (Calm.one (.slot i _ place rfl (newEntry_admitted hcar code cls sample at_ hfresh) fits)).trans (calm_addAnswer _ _)

theorem calm_autoAdmit (round : RoundNumber) {j : JoinBody} (hcar : j.car ≠ 0) (hnew : s.findCar j.car = none) :
    Calm s (autoAdmit round j s) := by
  simp only [autoAdmit]
  split
  · exact calm_addAnswer _ _
  · next i hi =>
    split
    · exact calm_addAnswer _ _
    · next code hcode =>
      exact calm_admitAt (by rw [firstFree_some hi]; rfl) hcar (fresh_of_findCar_none hnew) (fitsOneMore_of_grant hcode)

theorem calm_askConfirm (round : RoundNumber) {j : JoinBody} (hcar : j.car ≠ 0) (hnew : s.findCar j.car = none) :
    Calm s (askConfirm round j s) := by
  unfold askConfirm
  split
  · exact calm_addAnswer _ _
  · next i hi =>
    refine Calm.trans (Calm.one (.ask i _ (firstFree_some hi) rfl ?_)) (calm_notify _ _)
    exact ⟨hcar, fresh_of_findCar_none hnew, ⟨rfl, rfl, rfl⟩, nofun, ⟨rfl, rfl, rfl⟩, rfl⟩

/-! ### Resync -/

/-- The states from which an entry is resynced (R34, R35). -/
theorem EntryEdit.resync (round : RoundNumber) (h : HoldsCommands (s.entry i).state) : EntryEdit s i ((s.entry i).resync round) where
  slotted := by rcases h with h | h | h | h <;> rw [h] <;> rfl
  free := by rcases h with h | h | h | h <;> rw [h] <;> exact ⟨nofun, nofun⟩
  holds := fun _ => .inl rfl
  car := rfl
  granted := rfl
  cls := rfl
  vacant := fun hv => by simp [hv, Entry.vacant, HoldsCommands] at h
  handover := fun _ => ⟨rfl, rfl, rfl⟩
  peer := nofun
  unled := fun _ _ _ => ⟨rfl, rfl, rfl⟩
  commands := by
    show Shrinks (resyncCommands (s.entry i).commands) (s.entry i).commands
    cases (s.entry i).commands with
    | nil => exact .nil
    | cons k ks => exact .cons ⟨rfl, .inl rfl, id⟩ (Shrinks.refl ks)

theorem calm_resyncAt (round : RoundNumber) (h : HoldsCommands (s.entry i).state) : Calm s (resyncAt round i s) :=
  (calm_updateEntry (.resync round h)).trans (calm_addAnswer _ _)

theorem calm_joinKnown (round : RoundNumber) (i : Index) (s : State) : Calm s (joinKnown round i s) := by
  have hheard : (s.entry i).state ≠ .free → Calm s (s.updateEntry i fun e => { e with lastHeard := round }) := fun h =>
    calm_updateEntry (.of_alike {} (fun hv => absurd (by rw [hv]; rfl) h) (.refl _))
  unfold joinKnown
  split
  · next h => exact hheard (by simp [h])
  · next h => exact (hheard (by simp [h])).trans (calm_addAnswer _ _)
  · next h => exact calm_resyncAt round (.inl h)
  · next h => exact calm_resyncAt round (.inr (.inl h))
  · next h => exact (calm_sendToPeer _ _ _).trans (calm_resyncAt round (by simp [h, HoldsCommands]))
  · next h => exact (calm_sendToPeer _ _ _).trans (calm_resyncAt round (by simp [h, HoldsCommands]))
  · exact .refl

theorem calm_decideJoin (round : RoundNumber) {j : JoinBody} (hcar : j.car ≠ 0) (s : State) : Calm s (decideJoin round j s) := by
  unfold decideJoin
  split
  · exact calm_countWith s _
  split
  · exact .refl
  split
  · exact calm_countWith s _
  split
  · exact calm_joinKnown _ _ _
  · next hnew =>
    unfold joinNew
    split
    · exact calm_autoAdmit round hcar hnew
    · exact calm_askConfirm round hcar hnew

/-- A usable join names a car (R32). -/
theorem car_ne_zero_of_read {bytes : List Byte} {j : JoinBody} (h : JoinBody.read bytes = some j) : j.car ≠ 0 := by
  unfold JoinBody.read at h
  split at h
  · exact absurd h nofun
  · split at h
    · next hb =>
      split at h
      · exact Option.some.inj h ▸ hb.2
      · exact absurd h nofun
    · exact absurd h nofun

theorem calm_joinResult (round : RoundNumber) (r : JoinResult) (s : State) : Calm s (joinResult round r s) := by
  simp only [joinResult]
  split
  · exact .refl
  · exact calm_countWith s _
  · split
    · exact calm_countWith s _
    · next j hj => exact (calm_countWith s _).trans (calm_decideJoin round (car_ne_zero_of_read hj) _)

theorem calm_closeJoinAt (ago : Fin 3) (k : Fin 4) (r : JoinResult) (s : State) : Calm s (closeJoinAt ago k r s) := by
  simp only [closeJoinAt]
  split
  · refine Calm.trans (calm_withPlanOf ?_) (calm_joinResult _ _ _)
    exact fun q hq => ⟨q, hq, rfl, rfl, id, fun _ _ => .inl⟩
  · exact .refl

/-! ### Host requests on the roster -/

theorem reaches_decideAdmit {car : CarNumber} (hcar : car ≠ 0) (s : State) : Decision.Reaches (decideAdmit car s) s := by
  unfold decideAdmit
  split
  · exact Decision.reaches_refuse _ _
  next i hi =>
  dsimp only
  split
  · exact Decision.reaches_refuse _ _
  next hpending =>
  split
  · exact Decision.reaches_refuse _ _
  split
  · exact Decision.reaches_refuse _ _
  next code hcode =>
  have hpending : (s.entry i).state = .pending := by simpa using hpending
  exact Decision.reaches_of_calm fun k => calm_admitAt (s := { s with control := k })
    (by show (s.entry i).state.slotted = false; rw [hpending]; rfl) hcar (fresh_of_findCar_some (s := s) hi) (fitsOneMore_of_grant (s := s) hcode)

theorem calm_denyEntry (i : Index) (car : CarNumber) (bar : Half) (s : State) : Calm s (denyEntry i car bar.toNat s) :=
  (calm_freeEntry _ _ _ s).trans ((calm_addAnswer _ _).trans (calm_addBar car (Nat.le_of_lt_succ bar.isLt) _))

theorem reaches_decideDeny (car : CarNumber) (bar : Half) (s : State) : Decision.Reaches (decideDeny car bar.toNat s) s := by
  unfold decideDeny
  split
  · exact Decision.reaches_refuse _ _
  · split
    · exact Decision.reaches_refuse _ _
    · exact Decision.reaches_of_calm fun k => calm_denyEntry _ _ _ _

theorem calm_evictEntry (i : Index) (car : CarNumber) (bar : Half) (s : State) : Calm s (evictEntry i car bar.toNat s) := by
  have hfree : Calm s (freeEntry i none .evicted s) := calm_freeEntry _ _ _ s
  simp only [evictEntry]
  refine Calm.trans ?_ (calm_addBar car (Nat.le_of_lt_succ bar.isLt) _)
  split
  · exact hfree.trans (calm_sendToPeer _ _ _)
  · exact hfree

theorem reaches_decideEvict (car : CarNumber) (bar : Half) (s : State) : Decision.Reaches (decideEvict car bar.toNat s) s := by
  unfold decideEvict
  split
  · exact Decision.reaches_refuse _ _
  · exact Decision.reaches_of_calm fun k => calm_evictEntry _ _ _ _

theorem reaches_decideSetOrder (list : List Byte) (s : State) : Decision.Reaches (decideSetOrder list s) s := by
  unfold decideSetOrder
  split
  · exact Decision.reaches_refuse _ _
  · next is _ =>
    split
    · next hperm => exact Decision.reaches_of_calm fun k => .one (.order is (List.isPerm_iff.mp hperm))
    · exact Decision.reaches_refuse _ _

theorem calm_survey (on : Bool) (hactive : (s.entry i).state = .active) :
    Calm s (s.updateEntry i fun e => { e with survey := on }) := by
  have hused : s.entry i ≠ Entry.vacant := fun hv => by simp [hv, Entry.vacant] at hactive
  exact calm_updateEntry (.of_alike {} (fun hv => absurd hv hused) (.refl _))

theorem reaches_decideSurvey (car : CarNumber) (value : Byte) (s : State) : Decision.Reaches (decideSurvey car value s) s := by
  unfold decideSurvey
  split
  · exact Decision.reaches_refuse _ _
  split
  · exact Decision.reaches_refuse _ _
  split
  · next hactive => exact Decision.reaches_of_calm fun k => calm_survey (s := { s with control := k }) _ hactive
  · exact Decision.reaches_refuse _ _

/-! ### Numbers (R90, R102) -/

/-- Places short of the top give different numbers. -/
theorem numberAt_injOn {top first : Nat} : Set.InjOn (numberAt top first) (Set.Iio top) := by
  intro a ha b hb h
  have hmod : (first - 1 + a) % top = (first - 1 + b) % top := Nat.succ.inj h
  have hcancel : a ≡ b [MOD top] := Nat.ModEq.add_left_cancel' _ hmod
  rwa [Nat.ModEq, Nat.mod_eq_of_lt ha, Nat.mod_eq_of_lt hb] at hcancel

/-- With fewer numbers in use than tries, the number given is not in use (R90). -/
theorem firstUnused_not_mem {top tries first : Nat} {used : List Nat} (h1 : 1 ≤ first) (h2 : first ≤ top) (htries : tries ≤ top)
    (hfew : used.length < tries) : firstUnused top used tries first ∉ used := by
  obtain ⟨d, hd, heq, hbefore, hfree⟩ := firstUnused_place used tries h1 h2
  rw [heq]
  refine hfree (lt_of_le_of_ne hd ?_)
  rintro rfl
  have hinj : ((List.range d).map (numberAt top first)).Nodup :=
    List.Nodup.map_on (fun a ha b hb h => numberAt_injOn (show a < top from (List.mem_range.mp ha).trans_le htries)
      (show b < top from (List.mem_range.mp hb).trans_le htries) h) List.nodup_range
  have hsub : (List.range d).map (numberAt top first) ⊆ used := by
    intro n hn
    obtain ⟨c, hc, rfl⟩ := List.mem_map.mp hn
    exact hbefore c (List.mem_range.mp hc)
  have hlen := (List.subperm_of_subset hinj hsub).length_le
  simp at hlen
  omega

/-- The number given lies from 1 to the top (R90). -/
theorem firstUnused_range {top tries first : Nat} {used : List Nat} (h1 : 1 ≤ first) (h2 : first ≤ top) :
    1 ≤ firstUnused top used tries first ∧ firstUnused top used tries first ≤ top := by
  obtain ⟨d, -, heq, -, -⟩ := firstUnused_place used tries h1 h2
  rw [heq, numberAt]
  have := Nat.mod_lt (first - 1 + d) (show 0 < top by omega)
  omega

theorem length_commandNumbers (s : State) : s.commandNumbers.length = s.poolCount := by
  simp [State.commandNumbers, State.poolCount, List.length_flatMap]

theorem mem_commandNumbers {j : Index} {c : Command} (hc : c ∈ (s.entry j).commands) : c.number.toNat ∈ s.commandNumbers :=
  List.mem_flatMap.mpr ⟨j, List.mem_finRange j, List.mem_map_of_mem hc⟩

theorem nextCommand_range (h : s.nextCommand ≠ 0) : 1 ≤ s.nextCommand.toNat ∧ s.nextCommand.toNat ≤ 65535 := by
  have := s.nextCommand.isLt
  have hne : s.nextCommand.toNat ≠ 0 := fun h0 => h (BitVec.eq_of_toNat_eq (by simpa using h0))
  omega

/-- The number SEND gives: from 1 to 65,535, and no command of the pool has it (R90). -/
theorem newCommandNumber_spec (hnext : s.nextCommand ≠ 0) (hpool : s.poolCount < 64) :
    1 ≤ s.newCommandNumber ∧ s.newCommandNumber ≤ 65535 ∧ ∀ j, ∀ c ∈ (s.entry j).commands, c.number.toNat ≠ s.newCommandNumber := by
  obtain ⟨h1, h2⟩ := nextCommand_range hnext
  obtain ⟨hlow, hhigh⟩ := firstUnused_range (tries := 65) (used := s.commandNumbers) h1 h2
  refine ⟨hlow, hhigh, fun j c hc heq => ?_⟩
  have hnot := firstUnused_not_mem (top := 65535) (tries := 65) (used := s.commandNumbers) h1 h2 (by omega)
    (by rw [length_commandNumbers]; omega)
  have hmem := mem_commandNumbers hc
  rw [heq] at hmem
  exact hnot hmem

theorem nextBroadcast_range (h : s.nextBroadcast ≠ 0) : 1 ≤ s.nextBroadcast.toNat ∧ s.nextBroadcast.toNat ≤ 255 := by
  have := s.nextBroadcast.isLt
  have hne : s.nextBroadcast.toNat ≠ 0 := fun h0 => h (BitVec.eq_of_toNat_eq (by simpa using h0))
  omega

/-- The id BROADCAST gives: from 1 to 255, and no broadcast of the queue has it (R102). -/
theorem newBroadcastId_spec (hnext : s.nextBroadcast ≠ 0) (hfew : s.broadcasts.length < 5) :
    1 ≤ s.newBroadcastId ∧ s.newBroadcastId ≤ 255 ∧ ∀ b ∈ s.broadcasts, b.id.toNat ≠ s.newBroadcastId := by
  obtain ⟨h1, h2⟩ := nextBroadcast_range hnext
  obtain ⟨hlow, hhigh⟩ := firstUnused_range (tries := 5) (used := s.broadcasts.map fun b => b.id.toNat) h1 h2
  refine ⟨hlow, hhigh, fun b hb heq => ?_⟩
  have hnot := firstUnused_not_mem (top := 255) (tries := 5) (used := s.broadcasts.map fun b => b.id.toNat) h1 h2 (by omega)
    (by rw [List.length_map]; exact hfew)
  have hmem : b.id.toNat ∈ s.broadcasts.map fun b => b.id.toNat := List.mem_map_of_mem hb
  rw [heq] at hmem
  exact hnot hmem

/-! ### SEND, WITHDRAW, BROADCAST -/

theorem reaches_decideSend (car : CarNumber) (kind : Byte) (payload : List Byte) (expiry : Half) (flag : Byte) (s : State) :
    Decision.Reaches (decideSend car kind payload expiry flag s) s := by
  unfold decideSend
  split
  · exact Decision.reaches_refuse _ _
  split
  · exact Decision.reaches_refuse _ _
  next i hi =>
  dsimp only
  split
  · exact Decision.reaches_refuse _ _
  next hpending =>
  split
  · exact Decision.reaches_refuse _ _
  next hmoving =>
  split
  · exact Decision.reaches_refuse _ _
  split
  · exact Decision.reaches_refuse _ _
  next hpool =>
  split
  · exact Decision.reaches_refuse _ _
  next hlist =>
  have hholds : HoldsCommands (s.entry i).state := by
    have hused := (findCar_some hi).1
    unfold HoldsCommands
    cases h : (s.entry i).state <;> simp_all
  refine Decision.reaches_of_calm fun k => .one (.send i _ hholds (Nat.lt_of_not_le hpool) (Nat.lt_of_not_le hlist) rfl fun hs => ?_)
  obtain ⟨hlow, hhigh, hfresh⟩ := newCommandNumber_spec (s := s) hs.next (Nat.lt_of_not_le hpool)
  have hnumber : (BitVec.ofNat 16 s.newCommandNumber).toNat = s.newCommandNumber := by
    rw [BitVec.toNat_ofNat]
    exact Nat.mod_eq_of_lt (by omega)
  refine ⟨fun h0 => ?_, fun j c hc heq => hfresh j c hc ?_⟩
  · have h0 : BitVec.ofNat 16 s.newCommandNumber = 0 := h0
    rw [h0] at hnumber
    simp at hnumber
    omega
  · have heq : c.number = BitVec.ofNat 16 s.newCommandNumber := heq
    rw [heq, hnumber]

theorem calm_without (n : Half) (i : Index) (s : State) : Calm s (s.updateEntry i (Entry.without n)) :=
  calm_updateEntry (.of_alike {} (fun hv => .inl (by rw [hv]; rfl)) (.filter _ _))

theorem calm_expireCommand (n : Half) (s : State) : Calm s (expireCommand n s) := by
  unfold expireCommand
  split
  · exact .refl
  · exact (calm_without _ _ s).trans (calm_notify _ _)

theorem reaches_decideWithdraw (n : Half) (s : State) : Decision.Reaches (decideWithdraw n s) s := by
  unfold decideWithdraw
  split
  · exact Decision.reaches_refuse _ _
  · exact Decision.reaches_of_calm fun k => calm_without _ _ _

/-- A number after another is never 0 in its bytes (R90). -/
theorem numberAfter_range (top n : Nat) (htop : 1 ≤ top) : 1 ≤ numberAfter top n ∧ numberAfter top n ≤ top := by
  unfold numberAfter
  split <;> omega

theorem reaches_decideBroadcast (payload : List Byte) (repeats urgent : Byte) (s : State) :
    Decision.Reaches (decideBroadcast payload repeats urgent s) s := by
  unfold decideBroadcast
  split
  · exact Decision.reaches_refuse _ _
  split
  · exact Decision.reaches_refuse _ _
  next hroom =>
  have hroom : s.broadcasts.length < 4 := Nat.lt_of_not_le hroom
  refine Decision.reaches_of_calm fun k => .one (.broadcasts _ _ (fun _ => ?_) fun hs => ?_)
  · dsimp only
    split
    · exact hroom
    · rw [List.length_append]
      exact hroom
  · obtain ⟨hlow, hhigh, hfresh⟩ := newBroadcastId_spec (s := s) hs.nextId (by omega)
    have hid : (byteOf s.newBroadcastId).toNat = s.newBroadcastId := by
      rw [byteOf, BitVec.toNat_ofNat]
      exact Nat.mod_eq_of_lt (by omega)
    have hne : byteOf s.newBroadcastId ≠ 0 := by
      intro h0
      rw [h0] at hid
      simp at hid
      omega
    have hnew : ∀ b ∈ s.broadcasts, b.id ≠ byteOf s.newBroadcastId := fun b hb heq => hfresh b hb (heq ▸ hid)
    obtain ⟨hnlow, hnhigh⟩ := numberAfter_range 255 (byteOf s.newBroadcastId).toNat (by omega)
    refine ⟨?_, ?_, ?_⟩
    · intro h0
      have hz : (byteOf (numberAfter 255 (byteOf s.newBroadcastId).toNat)).toNat = 0 := by
        rw [show byteOf (numberAfter 255 (byteOf s.newBroadcastId).toNat) = 0 from h0]
        rfl
      rw [byteOf, BitVec.toNat_ofNat, Nat.mod_eq_of_lt (by omega)] at hz
      omega
    · intro b hb
      split at hb
      · rcases List.mem_cons.mp hb with rfl | hb
        · exact hne
        · exact hs.ids b hb
      · rcases List.mem_append.mp hb with hb | hb
        · exact hs.ids b hb
        · rw [List.mem_singleton.mp hb]
          exact hne
    · split
      · refine List.nodup_cons.mpr ⟨fun hmem => ?_, hs.uniqueIds⟩
        obtain ⟨b, hb, heq⟩ := List.mem_map.mp hmem
        exact hnew b hb heq
      · rw [List.map_append]
        refine List.nodup_append.mpr ⟨hs.uniqueIds, by simp, ?_⟩
        simpa using hnew

/-! ### TAKE, PEEK, FLUSH, COUNTS, CLEAR_COUNTS -/

theorem within_drop {cfg : QueueSetting} {x : RxQueue} (n : Nat) (h : x.Within cfg) :
    (RxQueue.settleEpisode cfg.depth { x with records := x.records.drop n }).Within cfg where
  depth := (List.drop_sublist _ _).length_le.trans h.depth
  storage := fun r hr => h.storage r (List.mem_of_mem_drop hr)
  lost := h.lost
  episode := by
    intro hep
    simp only [RxQueue.settleEpisode, Bool.and_eq_true, Bool.not_eq_true', decide_eq_false_iff_not, not_lt] at hep
    exact ⟨le_antisymm ((List.drop_sublist _ _).length_le.trans h.depth) hep.2, (h.episode hep.1).2⟩

theorem within_empty (cfg : QueueSetting) : RxQueue.empty.Within cfg := ⟨Nat.zero_le _, nofun, Nat.zero_le _, nofun⟩

theorem reaches_decideTake (count : Byte) (q : Fin 4) (s : State) : Decision.Reaches (decideTake count q s) s := by
  unfold decideTake
  dsimp only
  split
  · exact Decision.reaches_answer _ _ _
  · exact Decision.reaches_of_calm fun k => calm_setRx (within_drop _)

theorem reaches_decidePeek (q : Fin 4) (s : State) : Decision.Reaches (decidePeek q s) s := by
  unfold decidePeek
  dsimp only
  split <;> exact Decision.reaches_answer _ _ _

theorem reaches_decideFlush (q : Fin 4) (s : State) : Decision.Reaches (decideFlush q s) s :=
  Decision.reaches_of_calm fun _ => calm_setRx fun _ => within_empty _

theorem counters_zero_inRange : PortCounters.zero.InRange := ⟨by decide, by decide, by decide, by decide, by decide, by decide⟩

theorem calm_clearNode (s : State) : Calm s (clearNode s) := by
  have hport : ∀ (p : PortId) (t : State), Calm t (t.updatePort p fun x => { x with counters := PortCounters.zero }) := fun p t =>
    calm_updatePort p (f := fun x => { x with counters := PortCounters.zero }) (fun h => { h with counters := counters_zero_inRange }) t
  exact (calm_other NodeCounters.zero s.store).trans ((hport .up _).trans (hport .down _))

theorem reaches_decideClearCounts (scope index : Byte) (s : State) : Decision.Reaches (decideClearCounts scope index s) s := by
  have hentry : ∀ (i : Index) (t : State), EntryEdit t i (t.entry i).clearCounts := fun i t =>
    .of_alike {} (fun hv => .inl (by rw [hv]; rfl)) (.refl _)
  unfold decideClearCounts
  split
  · exact Decision.reaches_of_calm fun k => calm_clearNode _
  split
  · split
    · exact Decision.reaches_of_calm fun k => calm_updateEntry (hentry _ _)
    · exact Decision.reaches_refuse _ _
  split
  · exact Decision.reaches_of_calm fun k => (calm_clearNode _).trans (calm_mapEntries fun i => hentry i _)
  · exact Decision.reaches_refuse _ _

theorem reaches_decideCounts (scope index : Byte) (s : State) : Decision.Reaches (decideCounts scope index s) s := by
  unfold decideCounts
  repeat' split
  all_goals exact Decision.reaches_answer _ _ _

theorem reaches_decideRoster (part first : Byte) (s : State) : Decision.Reaches (decideRoster part first s) s := by
  unfold decideRoster
  repeat' split
  all_goals exact Decision.reaches_answer _ _ _

end

end Sys2Proof.Proofs
end

section
/-!
PROOFS. The chain (06, 07), the settings and their store (11), the resets (11.4), and with them every command and every arrival:
a step follows a path of moves.
-/
namespace Sys2Proof.Proofs
open Sys2Proof.Machine

section
variable {s : State} {i : Index}

/-! ### Handover frames -/

theorem port_held_frameIn {x : Port} (h : x.Held) : x.frameIn.Held :=
  { h with down := nofun, counters := { h.counters with framesIn := count16_le _ } }

theorem port_held_badFrame {x : Port} (h : x.Held) : x.badFrame.Held where
  handover := h.handover
  passAlong := h.passAlong
  down := fun hdown => h.down (Bool.or_eq_false_iff.mp hdown).1
  sending := h.sending
  counters := { h.counters with bad := count16_le _ }

theorem port_held_comeUp {x : Port} (h : x.Held) : x.comeUp.Held := { h with down := nofun }

theorem port_held_hopDrop {x : Port} (h : x.Held) : x.hopDrop.Held := { h with counters := { h.counters with hopLimit := count16_le _ } }

theorem port_held_directionDrop {x : Port} (h : x.Held) : x.directionDrop.Held :=
  { h with counters := { h.counters with wrongDirection := count16_le _ } }

theorem port_held_goDown (receiving : Bool) {x : Port} (h : x.Held) : (x.goDown receiving).Held := by
  unfold Port.goDown
  split
  · refine ⟨Nat.zero_le _, Nat.zero_le _, fun _ => ⟨rfl, rfl⟩, fun _ => ⟨rfl, rfl⟩, { h.counters with dropped := Nat.min_le_right _ _, bad := ?_ }⟩
    dsimp only
    split
    · exact count16_le _
    · exact h.counters.bad
  · exact h

theorem port_held_frameSent {x : Port} (h : x.Held) : x.frameSent.Held := by
  unfold Port.frameSent
  split
  · exact h
  · exact port_held_kick h.handover h.passAlong h.down { h.counters with framesOut := count16_le _ }

theorem portFacing_isSome_of_addressed {p : PortId} {src dst : Byte} (h : s.addressed p src dst = true) : (s.portFacing src).isSome = true := by
  simp only [State.addressed, Bool.and_eq_true, bne_iff_ne, beq_iff_eq] at h
  obtain ⟨⟨hne, hsrc⟩, -⟩ := h
  have hzero : src ≠ 0 := hsrc ▸ hne
  unfold State.portFacing
  cases p with
  | up =>
    have hup : src = s.image.node.upNeighbour := hsrc
    rw [if_neg hzero, if_pos hup]
    rfl
  | down =>
    have hdown : src = s.image.node.downNeighbour := hsrc
    rw [if_neg hzero]
    split
    · rfl
    · rfl

/-- A handover frame: screened, then decided as a calm path, for a source that is a neighbour. -/
theorem calm_receiveHandover {α : Type} {p : PortId} {src dst : Byte} {fields : Option α} {d : α → State → State}
    (h : ∀ a t, fields = some a → (t.portFacing src).isSome = true → Calm t (d a t)) (s : State) :
    Calm s (receiveHandover p src dst fields d s) := by
  unfold receiveHandover
  refine (calm_updatePort p port_held_frameIn s).trans ?_
  dsimp only
  split
  · next haddressed =>
    cases hf : fields with
    | none => exact calm_countWith _ _
    | some a => exact h a _ hf (portFacing_isSome_of_addressed haddressed)
  · exact calm_countWith _ _

/-- An offer that is read names a car (R106). -/
theorem car_ne_zero_of_offer {b : OfferBody} {o : Offer} (h : Offer.read b = some o) : o.car ≠ 0 := by
  unfold Offer.read at h
  split at h
  · exact absurd h nofun
  · split at h
    · next hb => exact Option.some.inj h ▸ hb.1
    · exact absurd h nofun

theorem calm_decideOffer (p : PortId) {src : Byte} {o : Offer} (hcar : o.car ≠ 0) (hfacing : (s.portFacing src).isSome = true) :
    Calm s (decideOffer p src o s) := by
  unfold decideOffer refuseOffer
  split
  · exact calm_sendHandover _ _ _ s
  split
  · split <;> exact calm_sendHandover _ _ _ s
  next hnew =>
  split
  · exact calm_sendHandover _ _ _ s
  next i hi =>
  split
  · next hfits =>
    refine Calm.trans (Calm.one (.slot i _ (by rw [firstFree_some hi]; rfl) rfl ?_ hfits)) (calm_sendHandover _ _ _ _)
    refine ⟨hcar, fresh_of_findCar_none hnew, ⟨rfl, rfl, rfl⟩, fun n hn => ?_, ⟨rfl, rfl, rfl⟩, rfl⟩
    exact Option.some.inj hn ▸ hfacing
  · exact calm_sendHandover _ _ _ s

theorem inPlace_some {car : CarNumber} {src : Byte} {x y : EntryState} (h : s.inPlace car src x y = some i) :
    s.findCar car = some i ∧ ((s.entry i).state = x ∨ (s.entry i).state = y) ∧ (s.entry i).peer = some src := by
  unfold State.inPlace at h
  split at h
  · exact absurd h nofun
  · next j hj =>
    split at h
    · next hplace =>
      obtain rfl := Option.some.inj h
      exact ⟨hj, hplace⟩
    · exact absurd h nofun

theorem calm_decideAccept (p : PortId) (src : Byte) (car : CarNumber) (t : MoveTarget) (s : State) : Calm s (decideAccept p src car t s) := by
  unfold decideAccept
  split
  · exact calm_sendHandover _ _ _ s
  · next i hi =>
    obtain ⟨-, hoffering, -⟩ := inPlace_some hi
    have hoffering : (s.entry i).state = .offering := hoffering.elim id id
    refine calm_updateEntry ?_
    exact {
      slotted := by rw [hoffering]; rfl
      free := by rw [hoffering]; exact ⟨nofun, nofun⟩
      holds := fun _ => .inr (.inr (.inr rfl))
      car := rfl
      granted := rfl
      cls := rfl
      vacant := fun hv => by simp [hv, Entry.vacant] at hoffering
      handover := fun ⟨hpeer, _, _⟩ => ⟨by rw [hoffering] at hpeer; exact hpeer, rfl, rfl⟩
      peer := fun n hn => .inl hn
      unled := fun _ _ => id
      commands := .refl _ }

theorem calm_handOver (i : Index) (present : Bool) (s : State) : Calm s (handOver i present s) := calm_freeEntry _ _ _ s

theorem calm_decideRefuse (src : Byte) (x : CarNumber × RefuseReason) (s : State) : Calm s (decideRefuse src x s) := by
  unfold decideRefuse
  split
  · exact calm_countWith s _
  · next i hi =>
    split
    · exact calm_handOver _ _ s
    · obtain ⟨-, hoffering, -⟩ := inPlace_some hi
      exact (calm_setEntry (.backToActive (hoffering.elim id id))).trans (calm_notify _ _)

theorem calm_decideDone (src : Byte) (car : CarNumber) (s : State) : Calm s (decideDone src car s) := by
  unfold decideDone
  split
  · exact calm_countWith s _
  · exact calm_handOver _ _ s

theorem calm_decideCancel (src : Byte) (car : CarNumber) (s : State) : Calm s (decideCancel src car s) := by
  unfold decideCancel
  split
  · exact calm_countWith s _
  · exact calm_freeEntry _ _ _ s

/-! ### PASS frames -/

theorem calm_relayPass (p : PortId) (hop : Byte) (b : PassBody) (s : State) : Calm s (relayPass p hop b s) := by
  unfold relayPass
  split
  · split
    · exact calm_deposit _ _ s
    · exact calm_updatePort p port_held_hopDrop s
  · split
    · exact calm_updatePort p port_held_directionDrop s
    · split
      · exact calm_updatePort p port_held_hopDrop s
      · exact calm_sendPass _ _ _ s

theorem calm_receivePass (p : PortId) (hop : Byte) (b : PassBody) (s : State) : Calm s (receivePass p hop b s) := by
  unfold receivePass
  split
  · exact (calm_updatePort p port_held_frameIn s).trans (calm_relayPass _ _ _ _)
  · exact calm_updatePort p port_held_badFrame s

/-! ### SET -/

theorem calm_dropLong (limit : Nat) (i : Index) (s : State) : Calm s (dropLong limit i s) := calm_filterCommands _ _ i s

/-- What a SET leaves of the groups that are not its own. -/
structure OthersKept (g : Group) (new old : Settings) : Prop where
  node : g ≠ .node → new.node = old.node
  round : g ≠ .round → new.round = old.round
  roster : g ≠ .roster → new.roster = old.roster
  queues : g ≠ .queues → new.queues = old.queues

theorem withValues_others (i : Settings) (g : Group) (vs : List Nat) : OthersKept g (i.withValues g vs) i := by
  unfold Settings.withValues
  split <;> exact ⟨by simp, by simp, by simp, by simp⟩

/-- The grace rounds of a ROSTER group whose fields lie in their ranges are at most 4 (R171). -/
theorem graceRounds_withValues_le (i : Settings) {bs : List Byte}
    (h : firstBadField Group.roster.fields (splitFields Group.roster.fields bs) = none) :
    (i.withValues .roster (splitFields Group.roster.fields bs)).roster.graceRounds ≤ 4 := by
  have hrange := firstBadField_eq_none_iff.mp h
  simp only [Group.fields, splitFields] at hrange ⊢
  have hgrace := hrange _ (.tail _ (.tail _ (.tail _ (.head _))))
  simp only [byteField, Bool.and_eq_true, decide_eq_true_eq] at hgrace
  exact hgrace.2

/-- The image replaced, nothing else: what each invariant asks of the new one. -/
theorem calm_image {i : Settings} {u : Unapplied} (hround : i.round = s.image.round) (hnode : i.node = s.image.node)
    (hqueues : i.queues = s.image.queues) (hgrace : s.ListsHeld → i.roster.graceRounds ≤ 4) :
    Calm s { s with image := i, unapplied := u } :=
  .one (.settings i s.live u s.queues (by rw [hround]; exact fun hs => hs.airtime) (.inl hnode)
    (by rw [hnode]; exact fun hu hd hs => hs hu hd)
    (by intro q; rw [hqueues]; exact id) (by rw [hqueues]; exact id) fun hs => ⟨hs.grace.2.1, hgrace hs⟩)

theorem reconfigure_within {old new : QueueSetting} {x : RxQueue} (h : x.Within old) : (x.reconfigure old new).Within new := by
  unfold RxQueue.reconfigure
  split
  · next hsame => exact { h with
      depth := hsame.1 ▸ h.depth
      storage := hsame.2 ▸ h.storage
      episode := by rw [← hsame.1]; exact h.episode }
  · exact ⟨Nat.zero_le _, nofun, h.lost, nofun⟩

/-- Four queues written one after another. -/
theorem rx_foldl_setRx {f : Fin 4 → RxQueue → RxQueue} (qs : List (Fin 4)) (hnodup : qs.Nodup) (s : State) :
    ∃ r : Vector RxQueue 4, qs.foldl (fun t q => t.setRx q (f q (t.rx q))) s = { s with queues := r } ∧
      ∀ q : Fin 4, r[q.val] = if q ∈ qs then f q (s.rx q) else s.rx q := by
  induction qs generalizing s with
  | nil => exact ⟨s.queues, rfl, fun q => by simp [State.rx]⟩
  | cons p ps ih =>
    obtain ⟨hp, hps⟩ := List.nodup_cons.mp hnodup
    obtain ⟨r, hr, hq⟩ := ih hps (s.setRx p (f p (s.rx p)))
    refine ⟨r, hr, fun q => ?_⟩
    rw [hq q, rx_setRx]
    by_cases hpq : p = q
    · subst hpq
      simp [hp]
    · have hqp : q ≠ p := fun h => hpq h.symm
      simp [hpq, hqp]

/-- The queues as a SET of QUEUES leaves them (R78). -/
theorem reconfigureQueues_eq (old : QueuesGroup) (s : State) :
    ∃ r : Vector RxQueue 4, reconfigureQueues old s = { s with queues := r } ∧
      ∀ q : Fin 4, r[q.val] = (s.rx q).reconfigure old.queue[q.val] (s.queueSetting q) := by
  have hfold : reconfigureQueues old s = (List.finRange 4).foldl
      (fun t q => t.setRx q (RxQueue.reconfigure old.queue[q.val] (s.queueSetting q) (t.rx q))) s := by
    have hgen : ∀ (qs : List (Fin 4)) (t : State), t.image = s.image →
        qs.foldl (fun t q => t.setRx q (RxQueue.reconfigure old.queue[q.val] (t.queueSetting q) (t.rx q))) t =
        qs.foldl (fun t q => t.setRx q (RxQueue.reconfigure old.queue[q.val] (s.queueSetting q) (t.rx q))) t := by
      intro qs
      induction qs with
      | nil => exact fun _ _ => rfl
      | cons q qs ih =>
        intro t ht
        have hsetting : t.queueSetting q = s.queueSetting q := by simp [State.queueSetting, ht]
        rw [List.foldl_cons, List.foldl_cons, hsetting]
        exact ih _ (by simpa using ht)
    exact hgen _ s rfl
  obtain ⟨r, hr, hq⟩ := rx_foldl_setRx (f := fun q x => RxQueue.reconfigure old.queue[q.val] (s.queueSetting q) x) (List.finRange 4)
    (List.nodup_finRange 4) s
  exact ⟨r, hfold.trans hr, fun q => by rw [hq q, if_pos (List.mem_finRange q)]⟩

theorem settleCandidates_eq (i : Settings) (u : Unapplied) (s : State) :
    settleCandidates { s with image := i, unapplied := u } =
      { (if i.node.upNeighbour = 0 ∧ i.node.downNeighbour = 0 then s.mapEntries Entry.forgetCandidate else s) with
        image := i, unapplied := u } := by
  unfold settleCandidates
  dsimp only
  split <;> rfl

theorem calm_forgetCandidates (s : State) : Calm s (s.mapEntries Entry.forgetCandidate) :=
  calm_mapEntries fun i => .of_standsAs {} (fun hv => .inl (by rw [hv]; rfl)) (fun _ _ _ => ⟨rfl, rfl, rfl⟩) (.refl _)

/-- The effect of a SET that the table of R172 accepts. -/
theorem calm_applySet {g : Group} {i : Settings} (hkept : OthersKept g i s.image) (hmay : s.mayChange g = true)
    (hgrace : g = .roster → i.roster.graceRounds ≤ 4) (hfits : g = .round → s.airtimeWith i.round ≤ i.round.period)
    (hbudget : g = .queues → i.queues.budget ≤ recordStoreBytes) : Calm s (applySet g i s) := by
  have hother : g ≠ .node → g ≠ .round → g ≠ .queues → Calm s { s with image := i, unapplied := s.unapplied.mark g } := fun hn hr hq =>
    calm_image (hkept.round hr) (hkept.node hn) (hkept.queues hq) fun hs => by
      by_cases hg : g = .roster
      · exact hgrace hg
      · rw [hkept.roster hg]
        exact hs.grace.2.2
  unfold applySet
  cases g with
  | node =>
    dsimp only
    rw [settleCandidates_eq]
    have hnone : ∀ j, (s.entry j).state.inHandover = false := by
      simp only [State.mayChange, Bool.and_eq_true, Bool.not_eq_true', List.any_eq_false] at hmay
      exact fun j => by simpa using hmay.2 j (List.mem_finRange j)
    have hfirst : Calm s (if i.node.upNeighbour = 0 ∧ i.node.downNeighbour = 0 then s.mapEntries Entry.forgetCandidate else s) := by
      split
      · exact calm_forgetCandidates s
      · exact .refl
    have hentry : ∀ j, (State.entry (if i.node.upNeighbour = 0 ∧ i.node.downNeighbour = 0 then s.mapEntries Entry.forgetCandidate else s) j).state =
        (s.entry j).state := by
      intro j
      split
      · rw [entry_mapEntries]; rfl
      · rfl
    have hled : i.node.upNeighbour = 0 → i.node.downNeighbour = 0 →
        ∀ j, Unled (State.entry (if i.node.upNeighbour = 0 ∧ i.node.downNeighbour = 0 then s.mapEntries Entry.forgetCandidate else s) j) := by
      intro hu hd j
      rw [if_pos ⟨hu, hd⟩, entry_mapEntries]
      exact ⟨rfl, rfl, rfl⟩
    have himage : (if i.node.upNeighbour = 0 ∧ i.node.downNeighbour = 0 then s.mapEntries Entry.forgetCandidate else s).image = s.image := by
      split <;> rfl
    generalize (if i.node.upNeighbour = 0 ∧ i.node.downNeighbour = 0 then s.mapEntries Entry.forgetCandidate else s) = u
      at hfirst hentry hled himage ⊢
    refine hfirst.trans (.one (.settings i u.live _ u.queues ?_ (.inr fun j => by rw [hentry]; exact hnone j) (fun hu hd _ => hled hu hd) ?_ ?_ ?_))
    · rw [hkept.round nofun, ← himage]
      exact fun hs => hs.airtime
    · intro q
      rw [hkept.queues nofun, ← himage]
      exact id
    · rw [hkept.queues nofun, himage]
      exact id
    · rw [hkept.roster nofun, ← himage]
      exact fun hs => ⟨hs.grace.2.1, hs.grace.2.2⟩
  | round =>
    have hset : Calm s { s with image := i, unapplied := s.unapplied.mark .round } := by
      refine .one (.settings i s.live _ s.queues (fun _ => hfits rfl) (.inl (hkept.node nofun)) ?_ ?_ ?_ ?_)
      · rw [hkept.node nofun]
        exact fun hu hd hs => hs hu hd
      · intro q
        rw [hkept.queues nofun]
        exact id
      · rw [hkept.queues nofun]
        exact id
      · rw [hkept.roster nofun]
        exact fun hs => ⟨hs.grace.2.1, hs.grace.2.2⟩
    dsimp only
    split
    · exact hset.trans (calm_forEach (calm_dropLong _) _)
    · exact hset
  | queues =>
    dsimp only
    obtain ⟨r, hr, hq⟩ := reconfigureQueues_eq s.image.queues { s with image := i, unapplied := s.unapplied.mark .queues }
    rw [hr]
    refine .one (.settings i s.live _ r ?_ (.inl (hkept.node nofun)) ?_ (fun q hw => ?_) (fun _ => hbudget rfl) ?_)
    · rw [hkept.round nofun]
      exact fun hs => hs.airtime
    · rw [hkept.node nofun]
      exact fun hu hd hs => hs hu hd
    · rw [hq q]
      exact reconfigure_within hw
    · rw [hkept.roster nofun]
      exact fun hs => ⟨hs.grace.2.1, hs.grace.2.2⟩
  | roster => exact hother nofun nofun nofun
  | link => exact hother nofun nofun nofun
  | handover => exact hother nofun nofun nofun
  | downlink => exact hother nofun nofun nofun
  | filter => exact hother nofun nofun nofun
  | pattern => exact hother nofun nofun nofun

theorem reaches_decideSetGroup (g : Group) (fields : List Byte) (s : State) : Decision.Reaches (decideSetGroup g fields s) s := by
  unfold decideSetGroup
  split
  · exact Decision.reaches_refuse _ _
  next hmay =>
  split
  · exact Decision.reaches_answer _ _ _
  next hgood =>
  dsimp only
  split
  · exact Decision.reaches_answer _ _ _
  split
  · exact Decision.reaches_refuse _ _
  next hfits =>
  split
  · exact Decision.reaches_refuse _ _
  next hbudget =>
  have hmay : s.mayChange g = true := by simpa using hmay
  refine Decision.reaches_of_calm fun k => calm_applySet (s := { s with control := k }) (withValues_others _ _ _) hmay ?_ ?_ ?_
  · rintro rfl
    exact graceRounds_withValues_le _ hgood
  · rintro rfl
    simp only [true_and, not_lt] at hfits
    exact hfits
  · rintro rfl
    simpa using hbudget

theorem reaches_decideSet (group : Byte) (fields : List Byte) (s : State) : Decision.Reaches (decideSet group fields s) s := by
  unfold decideSet
  split
  · exact Decision.reaches_answer _ _ _
  · exact reaches_decideSetGroup _ _ s

theorem reaches_decideGet (group : Byte) (s : State) : Decision.Reaches (decideGet group s) s := by
  unfold decideGet
  split <;> exact Decision.reaches_answer _ _ _

/-! ### SAVE -/

theorem calm_store (st : Store) (s : State) : Calm s { s with store := st } := calm_other s.counters st

theorem reaches_decideSave (s : State) : Decision.Reaches (decideSave s) s := by
  unfold decideSave
  split
  · exact Decision.reaches_refuse _ _
  · exact Decision.reaches_of_calm fun _ => calm_store _ _

theorem calm_eraseDone (s : State) : Calm s (eraseDone s) := by
  unfold eraseDone
  split
  · exact .refl
  · split
    · exact calm_store _ s
    · exact .refl

theorem calm_programmed (b : Byte) (s : State) : Calm s (programmed b s) := by
  unfold programmed
  split
  · exact .refl
  split
  · exact .refl
  dsimp only
  split
  · split
    · exact calm_store _ s
    · exact (calm_store _ s).trans (calm_notify _ _)
  · split
    · exact calm_store _ s
    · exact (calm_store _ s).trans (calm_notify _ _)

/-! ### The resets -/

/-- The image that a page holds is sound, and its grace rounds lie in their range (R177). -/
theorem sound_of_loadPage {page : List Byte} {i : Settings} (h : loadPage page = some i) :
    i.sound = true ∧ i.roster.graceRounds ≤ 4 := by
  simp only [loadPage] at h
  split at h
  · next hpage =>
    obtain ⟨-, -, -, hfields, hsound⟩ := hpage
    obtain rfl := Option.some.inj h
    refine ⟨hsound, ?_⟩
    simp only [splitGroups, Group.all, List.all_cons, List.all_nil, Bool.and_eq_true, Option.isNone_iff_eq_none] at hfields
    obtain ⟨-, -, hroster, -⟩ := hfields
    simp only [Settings.ofGroups, splitGroups, Group.all, List.foldl_cons, List.foldl_nil]
    rw [(withValues_others _ .pattern _).roster nofun, (withValues_others _ .filter _).roster nofun,
      (withValues_others _ .queues _).roster nofun, (withValues_others _ .downlink _).roster nofun,
      (withValues_others _ .handover _).roster nofun, (withValues_others _ .link _).roster nofun]
    exact graceRounds_withValues_le _ hroster
  · exact absurd h nofun

/-- Every block at its reset values leaves quiet sound. -/
theorem quietSound_afterReset (straps : Straps) (i : Settings) (l : LiveSettings) (u : Unapplied) (st : Store) (s : State) :
    (s.afterReset straps i l u st).QuietSound :=
  ⟨rfl, fun _ => rfl, fun _ => rfl, fun _ => rfl, nofun, fun _ => rfl, nofun⟩

theorem reaches_resetWith (straps : Straps) (page : List Byte) (s : State) : Reaches s (resetWith straps (loadPage page) s) := by
  unfold resetWith
  split
  · next i hi =>
    obtain ⟨hsound, hgrace⟩ := sound_of_loadPage hi
    simp only [Settings.sound, Bool.and_eq_true, decide_eq_true_eq] at hsound
    exact ⟨.single (.reset straps i i.liveGroups _ _ (fun _ => hsound.2) (fun _ => hsound.1.2) fun _ => ⟨hgrace, hgrace⟩),
      fun _ => quietSound_afterReset _ _ _ _ _ s⟩
  · exact ⟨.single (.reset straps Settings.default Settings.default.liveGroups _ _ (fun _ => by decide) (fun _ => by decide)
      fun _ => by decide), fun _ => quietSound_afterReset _ _ _ _ _ s⟩

/-- Start-up from a state as a reset leaves it (steps 2 and 3 of R177). -/
theorem reaches_startUp (cause : ReadyCause) (q : Bool) (hr : s.inReset = false) (hstate : s.engine.state = .stopped) :
    Reaches s (startUp cause q s) := by
  have hready := reaches_notify (.ready cause s.store.source) s
  have hquiet : Reaches (notify (.ready cause s.store.source) s) (startQuiet q (notify (.ready cause s.store.source) s)) := by
    unfold startQuiet
    split
    · refine ⟨(Relation.ReflTransGen.single (Stage.recore s.inReset { s.quiet with lineClaim := true } s.engine.state s.engine.round
        s.engine.resumePending s.engine.inProgress s.engine.radio)).trans (path_enterSilent _), fun hs => ?_⟩
      exact quietSound_enterSilent hr rfl (hs.resting (.inl hstate)) fun h => absurd (hstate.symm.trans h) (by decide)
    · exact .refl _
  have hstopped : (startQuiet q (notify (.ready cause s.store.source) s)).engine.state = .stopped := by
    unfold startQuiet
    split <;> exact hstate
  unfold startUp autostart
  refine hready.trans (hquiet.trans ?_)
  split
  · exact reaches_startEngine hstopped
  · exact .refl _

theorem reaches_fullReset (cause : ReadyCause) (straps : Straps) (q : Bool) (s : State) :
    Reaches s (startUp cause q (resetWith straps (loadPage s.store.page) s)) := by
  refine (reaches_resetWith straps s.store.page s).trans (reaches_startUp cause q ?_ ?_) <;>
    (unfold resetWith; split <;> rfl)

theorem fixedPart_le_airtime (s : State) : s.image.round.fixedPart ≤ s.airtime := Nat.le_add_right _ _

theorem reaches_restartEffect (q : Bool) (s : State) : Reaches s (restartEffect q s) := by
  unfold restartEffect
  split
  · refine Reaches.trans ⟨.single (.reset _ _ _ _ _ (fun hs => (fixedPart_le_airtime s).trans hs.airtime) id
      fun hs => ⟨hs.grace.2.1, hs.grace.2.2⟩), fun _ => quietSound_afterReset _ _ _ _ _ s⟩ (reaches_startUp _ q rfl rfl)
  · exact .refl s

theorem port_held_enterReset {x : Port} (h : x.Held) : x.enterReset.Held :=
  ⟨Nat.zero_le _, Nat.zero_le _, fun _ => ⟨rfl, rfl⟩, fun _ => ⟨rfl, rfl⟩, h.counters⟩

theorem reaches_enterReset (s : State) : Reaches s (enterReset s) := by
  refine ⟨?_, fun hs => ?_⟩
  · have hcontrol := calm_control (s := s) (k := { s.control with
      receiver := .hunting, buffer := [], busy := [], replies := [], notices := [], line := none, restarting := false })
      fun hs => ⟨Nat.zero_le _, Nat.zero_le _, Nat.zero_le _, hs.badFrames, hs.noticesLost, fun h => absurd rfl h, .nil, rfl, rfl⟩
    have hcalm := hcontrol.trans ((calm_store { s.store with job := none, state := if s.store.state = .saving then .invalid else s.store.state } _).trans
      ((calm_updatePort .up port_held_enterReset _).trans (calm_updatePort .down port_held_enterReset _)))
    exact (Path.of_calm hcalm).tail (.recore true { s.quiet with ack := false } s.engine.state s.engine.round s.engine.resumePending
      s.engine.inProgress none)
  · exact { hs with ack := by simp [enterReset], silent := fun _ => rfl }

theorem reaches_serveBadRequest (hs : Ready s) (r : Request) : Reaches s (serveBadRequest r s) := by
  unfold serveBadRequest
  split
  · exact reaches_serve hs (fun u _ => Decision.reaches_refuse _ u) r
  · exact .refl s

theorem reaches_decideRestart (s : State) : Decision.Reaches (decideRestart s) s := by
  unfold decideRestart
  split
  · exact Decision.reaches_refuse _ _
  · exact Decision.reaches_of_calm fun _ => calm_control Accounted.beginRestart

/-! ### Every command -/

theorem reachesIn_calm {f : State → State} (h : ∀ u, Calm u (f u)) (s : State) : ReachesIn s (onEvent f s) :=
  reachesIn_onEvent (fun u _ => .of_calm (h u)) s

theorem reachesIn_row {runsOut : State → Bool} {f : State → State} (h : ∀ u, Calm u (f u)) (s : State) :
    ReachesIn s (onRoundStart (whenDue runsOut f) s) :=
  reachesIn_onRoundStart (fun u _ => reaches_whenDue fun _ => h u) s

theorem reachesIn_phaseRow {x : EntryState} {f : State → State} (i : Index) (h : ∀ u : State, (u.entry i).state = x → Calm u (f u)) (s : State) :
    ReachesIn s (onRoundStart (whenDue (phaseDue i x) f) s) := by
  refine reachesIn_onRoundStart (fun u _ => reaches_whenDue fun hdue => h u ?_) s
  simp only [phaseDue, Bool.and_eq_true, beq_iff_eq] at hdue
  exact hdue.1

theorem calm_removeBar (car : CarNumber) (s : State) : Calm s (removeBar car s) :=
  calm_bars fun hs => ⟨List.filter_sublist.length_le.trans hs.bars, hs.barCars.sublist (List.filter_sublist.map _),
    fun b hb => hs.barRounds b (List.mem_of_mem_filter hb)⟩

/-- Every command follows a path, and keeps quiet sound. -/
theorem reachesIn_exec (c : Instr) (s : State) : ReachesIn s (exec c s) := by
  cases c with
  | fullReset cause straps q => rintro t ⟨⟩; exact reaches_fullReset _ straps q s
  | requestReceived kind tag body => exact reachesIn_onEvent (fun u _ => reaches_receiveRequest _ u) s
  | controlBadFrame => exact reachesIn_calm (fun u => calm_control Accounted.badFrame) s
  | controlGapTimeout => exact reachesIn_calm (fun u => calm_control Accounted.badFrame) s
  | badRequest kind tag body => exact reachesIn_onEvent (fun u hu => reaches_serveBadRequest hu _) s
  | status tag => exact reachesIn_onRequest (fun u _ => Decision.reaches_answer _ _ u) _ s
  | restart tag => exact reachesIn_onRequest (fun u _ => reaches_decideRestart u) _ s
  | restartTakesEffect q => exact reachesIn_onEvent (fun u _ => reaches_restartEffect q u) s
  | set tag group fields => exact reachesIn_onRequest (fun u _ => reaches_decideSet group fields u) _ s
  | get tag group => exact reachesIn_onRequest (fun u _ => reaches_decideGet group u) _ s
  | save tag => exact reachesIn_onRequest (fun u _ => reaches_decideSave u) _ s
  | saveEraseDone => exact reachesIn_calm calm_eraseDone s
  | saveByteProgrammed b => exact reachesIn_calm (calm_programmed b) s
  | start tag => exact reachesIn_onRequest (fun u _ => reaches_decideStart u) _ s
  | stop tag => exact reachesIn_onRequest (fun u hu => reaches_decideStop hu) _ s
  | stepRound tag => exact reachesIn_onRequest (fun u _ => reaches_decideStep u) _ s
  | plan tag => exact reachesIn_onRequest (fun u _ => Decision.reaches_answer _ _ u) _ s
  | roster tag part first => exact reachesIn_onRequest (fun u _ => reaches_decideRoster part first u) _ s
  | admitCar tag car => exact reachesIn_onRequest (fun u _ => reaches_forCar fun hcar => reaches_decideAdmit hcar u) _ s
  | deny tag car bar => exact reachesIn_onRequest (fun u _ => reaches_forCar fun _ => reaches_decideDeny car bar u) _ s
  | evict tag car bar => exact reachesIn_onRequest (fun u _ => reaches_forCar fun _ => reaches_decideEvict car bar u) _ s
  | setOrder tag list => exact reachesIn_onRequest (fun u _ => reaches_decideSetOrder list u) _ s
  | survey tag car value => exact reachesIn_onRequest (fun u _ => reaches_decideSurvey car value u) _ s
  | send tag car kind payload expiry flag => exact reachesIn_onRequest (fun u _ => reaches_decideSend car kind payload expiry flag u) _ s
  | withdraw tag n => exact reachesIn_onRequest (fun u _ => reaches_decideWithdraw n u) _ s
  | broadcast tag payload repeats urgent => exact reachesIn_onRequest (fun u _ => reaches_decideBroadcast payload repeats urgent u) _ s
  | take tag queue count => exact reachesIn_onRequest (fun u _ => reaches_forQueue fun q => reaches_decideTake count q u) _ s
  | peek tag queue => exact reachesIn_onRequest (fun u _ => reaches_forQueue fun q => reaches_decidePeek q u) _ s
  | flush tag queue => exact reachesIn_onRequest (fun u _ => reaches_forQueue fun q => reaches_decideFlush q u) _ s
  | quiet tag value m => exact reachesIn_onRequest (fun u hu => reaches_decideQuiet value m hu) _ s
  | counts tag scope index => exact reachesIn_onRequest (fun u _ => reaches_decideCounts scope index u) _ s
  | clearCounts tag scope index => exact reachesIn_onRequest (fun u _ => reaches_decideClearCounts scope index u) _ s
  | controlFrameSent => exact reachesIn_calm (fun u => calm_control Accounted.frameSent) s
  | roundStart => exact reachesIn_onRoundStart (fun u hu => reaches_startDueRound hu) s
  | offerTimerExpiry i => exact reachesIn_phaseRow i (fun u hu => (calm_setEntry (.backToActive hu)).trans (calm_notify _ _)) s
  | moveTimerExpiry i => exact reachesIn_row (fun u => calm_freeEntry _ _ _ u) s
  | arrivalTimerExpiry i => exact reachesIn_row (fun u => calm_freeEntry _ _ _ u) s
  | confirmTimerExpiry i => exact reachesIn_row (fun u => calm_freeEntry _ _ _ u) s
  | barExpiry car => exact reachesIn_row (calm_removeBar car) s
  | commandExpiry n => exact reachesIn_row (calm_expireCommand n) s
  | broadcastDone => exact reachesIn_onRoundStart (fun u _ => .refl u) s
  | roundComplete => exact reachesIn_onEvent (fun u _ => reaches_completeRound u) s
  | slotStart k => exact reachesIn_onEvent (fun u hu => reaches_beginSlot k.val hu.running) s
  | uplinkWindowClose ago k r => exact reachesIn_calm (calm_closeAt ago k.val r) s
  | joinWindowClose ago k r => exact reachesIn_calm (calm_closeJoinAt ago k r) s
  | strayBurst => exact reachesIn_calm (fun u => .refl) s
  | quietBreach car silent => exact reachesIn_onEvent (fun u _ => reaches_breach car silent u) s
  | lineClaimArrives m => exact reachesIn_onEvent (fun u hu => reaches_lineArrives m hu.running) s
  | lineClaimWithdrawn => exact reachesIn_onEvent (fun u _ => reaches_lineWithdrawn u) s
  | drainEnd => exact reachesIn_onEvent (fun u hu => reaches_drained hu.running) s
  | offerReceived p src dst b =>
    exact reachesIn_calm (fun u => calm_receiveHandover (fun o t ho ht => calm_decideOffer p (car_ne_zero_of_offer ho) ht) u) s
  | acceptReceived p src dst b => exact reachesIn_calm (fun u => calm_receiveHandover (fun a t _ _ => calm_decideAccept p src b.car a t) u) s
  | refuseReceived p src dst car reason => exact reachesIn_calm (fun u => calm_receiveHandover (fun x t _ _ => calm_decideRefuse src x t) u) s
  | doneReceived p src dst car => exact reachesIn_calm (fun u => calm_receiveHandover (fun x t _ _ => calm_decideDone src x t) u) s
  | cancelReceived p src dst car => exact reachesIn_calm (fun u => calm_receiveHandover (fun x t _ _ => calm_decideCancel src x t) u) s
  | passReceived p src dst hop b => exact reachesIn_calm (calm_receivePass p hop b) s
  | chainBadFrame p => exact reachesIn_calm (fun u => calm_updatePort p port_held_badFrame u) s
  | portUp p => exact reachesIn_calm (fun u => calm_updatePort p port_held_comeUp u) s
  | portDown p receiving => exact reachesIn_calm (fun u => calm_updatePort p (port_held_goDown receiving) u) s
  | chainFrameSent p => exact reachesIn_calm (fun u => calm_updatePort p port_held_frameSent u) s
  | quietTimerTick => exact reachesIn_onEvent (fun u _ => reaches_tickQuiet u) s
  | resetAsserted => rintro t ⟨⟩; exact reaches_enterReset s

/-! ### Every step -/

theorem calm_receiver (p : PortId) (r : Receiver) (s : State) : Calm s (s.setPort p { s.port p with receiver := r }) :=
  .one (.port p _ fun h => { h with })

/-- An arrival makes moves, and what it hands on joins the waiting commands. -/
theorem calm_takeArrival (a : Arrival) (s : State) : ∃ t more, Calm s t ∧ takeArrival a s = { t with pending := t.pending ++ more } := by
  have hself : s = { s with pending := s.pending ++ [] } := by rw [List.append_nil]
  cases a with
  | command c => exact ⟨s, [c], .refl, rfl⟩
  | byte l b =>
    simp only [takeArrival, receiveByte]
    split
    · exact ⟨s, [], .refl, hself⟩
    · cases l with
      | control => exact ⟨_, _, calm_control Accounted.receiver, rfl⟩
      | chain p =>
        refine ⟨_, (if b.stop && !(s.port p).isUp then [.portUp p] else []) ++
          (((s.port p).receiver.take chainFraming true b).2.map (chainRow p)).toList,
          calm_receiver p ((s.port p).receiver.take chainFraming true b).1 s, ?_⟩
        cases p <;> simp [chainByte, State.setPort, List.append_assoc]

/-- What a step's two halves keep, the queue of the waiting commands and the rest of the state, the step keeps. -/
theorem step_keeps {P : State → Prop} (queue : ∀ {s} p a, P s → P { s with pending := p, arrivals := a })
    (stage : ∀ {s t}, P s → Stage s t → P t) {t : State} (hs : P s) (h : step s = .next t) : P t := by
  unfold step at h
  split at h
  · next c cs _ => exact Path.keeps stage (reachesIn_exec c _ t h).path (queue cs s.arrivals hs)
  · split at h
    · next a as _ =>
      cases h
      obtain ⟨u, more, hcalm, heq⟩ := calm_takeArrival a { s with arrivals := as }
      rw [heq]
      exact queue _ u.arrivals (Path.keeps stage (Path.of_calm hcalm) (queue s.pending as hs))
    · cases h
      exact hs

/-- Quiet stays sound along a step. -/
theorem quietSound_step {t : State} (hs : s.QuietSound) (h : step s = .next t) : t.QuietSound := by
  unfold step at h
  split at h
  · next c cs _ => exact (reachesIn_exec c _ t h).quiet { hs with }
  · split at h
    · next a as _ =>
      cases h
      obtain ⟨u, more, hcalm, heq⟩ := calm_takeArrival a { s with arrivals := as }
      rw [heq]
      exact { hcalm.sameCore.quietSound { hs with } with }
    · cases h
      exact hs

end

end Sys2Proof.Proofs
end

section
/-!
PROOFS. The roster invariants, read off the moves: the order table (R30), its airtime (R6), the car numbers (R29), the plans
(R17, R19), the fields of a handover (R107) and the candidates (R59).
-/
namespace Sys2Proof.Proofs
open Sys2Proof.Machine

section
variable {s t : State} {i : Index} {e : Entry}

/-! ### The order table (R30) -/

theorem orderExact_setEntry (h : s.OrderExact) (hsame : e.state.slotted = (s.entry i).state.slotted) : (s.setEntry i e).OrderExact := by
  refine ⟨h.1, fun j => ?_⟩
  rw [entry_setEntry]
  split
  · next hij => rw [← hij, hsame]; exact h.2 i
  · exact h.2 j

theorem orderExact_slotIn (h : s.OrderExact) (hplace : (s.entry i).state.slotted = false) (hslotted : e.state.slotted = true) :
    (s.slotIn i e).OrderExact := by
  have hnew : i ∉ s.order := fun hmem => by simp [(h.2 i).mp hmem] at hplace
  have hnodup : (s.order ++ [i]).Nodup := List.nodup_append.mpr ⟨h.1, by simp, fun j hj k hk heq =>
    hnew (List.mem_singleton.mp hk ▸ heq ▸ hj)⟩
  refine ⟨hnodup, fun j => ?_⟩
  rw [entry_slotIn, order_slotIn, List.mem_append, List.mem_singleton]
  split
  · next hij => simp [hslotted, hij]
  · next hij => simpa [Ne.symm hij] using h.2 j

theorem orderExact_clearEntry (h : s.OrderExact) : (clearEntry i s).OrderExact := by
  refine ⟨h.1.erase i, fun j => ?_⟩
  rw [entry_clearEntry, show (clearEntry i s).order = s.order.erase i from rfl, h.1.mem_erase_iff]
  split
  · next hij => simp [hij, Entry.vacant, EntryState.slotted]
  · next hij => simpa [Ne.symm hij] using h.2 j

theorem orderExact_move (h : s.OrderExact) (hmove : Move s t) : t.OrderExact := by
  cases hmove with
  | port p => cases p <;> exact h
  | roster r edits => exact ⟨h.1, fun i => (h.2 i).trans (by rw [← (edits i).slotted]; rfl)⟩
  | reclass i cls held => exact orderExact_setEntry h rfl
  | slot i e place slotted => exact orderExact_slotIn h place slotted
  | ask i e place pending => exact orderExact_setEntry h (by rw [place, pending]; rfl)
  | clear i => exact orderExact_clearEntry h
  | order is perm => exact ⟨perm.nodup_iff.mpr h.1, fun i => perm.mem_iff.trans (h.2 i)⟩
  | send i k => exact orderExact_setEntry h rfl
  | carry i k ks => exact orderExact_setEntry h rfl
  | _ => exact h

theorem entry_afterReset (straps : Straps) (im : Settings) (l : LiveSettings) (u : Unapplied) (st : Store) (s : State) (i : Index) :
    (s.afterReset straps im l u st).entry i = Entry.vacant := by
  simp [State.entry, State.afterReset]

theorem orderExact_stage (h : s.OrderExact) (hstage : Stage s t) : t.OrderExact := by
  cases hstage with
  | move hmove => exact orderExact_move h hmove
  | recore => exact h
  | begin => exact h
  | reset => exact ⟨.nil, fun i => by rw [entry_afterReset]; simp [State.afterReset, Entry.vacant, EntryState.slotted]⟩

/-! ### The airtime (R6) -/

/-- Entries that have the allowances and the classes of those before leave the airtime as it was. -/
theorem slotsAirtime_congr {pd : Code} {r r' : Vector Entry 24} {order : List Index}
    (h : ∀ i ∈ order, (r'[i.val]).granted = (r[i.val]).granted ∧ (r'[i.val]).cls = (r[i.val]).cls) :
    slotsAirtime pd r' order = slotsAirtime pd r order := by
  refine congrArg List.sum (List.map_congr_left fun i hi => ?_)
  obtain ⟨hgranted, hcls⟩ := h i hi
  rw [hgranted, Entry.rate, Entry.rate, hcls]

/-- The order in which an order table lists its entries is no matter to the airtime. -/
theorem slotsAirtime_perm {pd : Code} {r : Vector Entry 24} {order order' : List Index} (h : order.Perm order') :
    slotsAirtime pd r order = slotsAirtime pd r order' := (h.map _).sum_eq

/-- An entry written at an index outside the order table leaves the airtime as it was. -/
theorem slotsAirtime_set {pd : Code} {order : List Index} (h : i ∉ order) :
    slotsAirtime pd (s.setEntry i e).roster order = slotsAirtime pd s.roster order := by
  refine slotsAirtime_congr fun j hj => ?_
  have hentry : ((s.setEntry i e).roster)[j.val] = s.entry j := entry_setEntry_ne s e fun heq => h (heq ▸ hj)
  rw [hentry]
  exact ⟨rfl, rfl⟩

/-- An entry written over one with its allowance and class leaves the airtime as it was. -/
theorem airtimeFits_setEntry (h : s.AirtimeFits) (hgranted : e.granted = (s.entry i).granted) (hcls : e.cls = (s.entry i).cls) :
    (s.setEntry i e).AirtimeFits :=
  airtimeFits_faster h (by rw [hgranted, Entry.rate, Entry.rate, hcls])

/-- The airtime rests on the image, the roster and the order table alone. -/
theorem airtimeFits_congr (himage : t.image = s.image) (hroster : t.roster = s.roster) (horder : t.order = s.order) (h : s.AirtimeFits) :
    t.AirtimeFits := by
  unfold State.AirtimeFits State.airtime State.airtimeWith at h ⊢
  rwa [himage, hroster, horder]

theorem airtimeFits_slotIn (h : s.RoundFits) (hplace : (s.entry i).state.slotted = false) (hfits : s.fitsOneMore e.granted e.rate = true) :
    (s.slotIn i e).AirtimeFits := by
  have hnew : i ∉ s.order := fun hmem => by simp [(h.order.2 i).mp hmem] at hplace
  have hself : ((s.slotIn i e).roster)[i.val] = e := entry_setEntry_self s i e
  have hrest : slotsAirtime s.image.round.pd (s.slotIn i e).roster s.order = slotsAirtime s.image.round.pd s.roster s.order :=
    slotsAirtime_set hnew
  have hsum : slotsAirtime s.image.round.pd (s.slotIn i e).roster (s.order ++ [i]) =
      slotsAirtime s.image.round.pd s.roster s.order + slotLength s.image.round.pd e.granted e.rate := by
    rw [← hrest]
    simp only [slotsAirtime, List.map_append, List.sum_append, List.map_cons, List.map_nil, hself]
    simp
  have hle : s.airtime + slotLength s.image.round.pd e.granted e.rate ≤ s.image.round.period := by
    simpa [State.fitsOneMore] using hfits
  show s.image.round.fixedPart + slotsAirtime s.image.round.pd (s.slotIn i e).roster (s.order ++ [i]) ≤ s.image.round.period
  rw [hsum, ← Nat.add_assoc]
  exact hle

theorem airtimeFits_clearEntry (h : s.RoundFits) : (clearEntry i s).AirtimeFits := by
  have hrest : slotsAirtime s.image.round.pd (clearEntry i s).roster (s.order.erase i) = slotsAirtime s.image.round.pd s.roster (s.order.erase i) :=
    slotsAirtime_set h.order.1.not_mem_erase
  have hle : slotsAirtime s.image.round.pd s.roster (s.order.erase i) ≤ slotsAirtime s.image.round.pd s.roster s.order :=
    (List.erase_sublist.map _).sum_le_sum fun _ _ => Nat.zero_le _
  show s.image.round.fixedPart + slotsAirtime s.image.round.pd (clearEntry i s).roster (s.order.erase i) ≤ s.image.round.period
  rw [hrest]
  exact (Nat.add_le_add_left hle _).trans h.airtime

theorem airtimeFits_move (h : s.RoundFits) (hmove : Move s t) : t.AirtimeFits := by
  cases hmove with
  | port p => cases p <;> exact h.airtime
  | roster r edits => exact (Nat.add_le_add_left (slotsAirtime_congr fun i _ => ⟨(edits i).granted, (edits i).cls⟩).le _).trans h.airtime
  | reclass i cls held used fits => exact fits h
  | slot i e place _ _ fits => exact airtimeFits_slotIn h place fits
  | ask i e place =>
    have hnew : i ∉ s.order := fun hmem => by simpa [place, EntryState.slotted] using (h.order.2 i).mp hmem
    exact (Nat.add_le_add_left (slotsAirtime_set hnew).le _).trans h.airtime
  | clear i => exact airtimeFits_clearEntry h
  | order is perm => exact (Nat.add_le_add_left (slotsAirtime_perm perm).le _).trans h.airtime
  | send i k =>
    have hset : (s.setEntry i { s.entry i with commands := (s.entry i).commands ++ [k] }).AirtimeFits :=
      airtimeFits_setEntry h.airtime rfl rfl
    exact airtimeFits_congr rfl rfl rfl hset
  | carry i k ks => exact airtimeFits_setEntry h.airtime rfl rfl
  | settings i l u qs fits => exact fits h
  | _ => exact h.airtime

theorem roundFits_stage (h : s.RoundFits) (hstage : Stage s t) : t.RoundFits := by
  refine ⟨orderExact_stage h.order hstage, ?_⟩
  cases hstage with
  | move hmove => exact airtimeFits_move h hmove
  | recore => exact h.airtime
  | begin => exact h.airtime
  | reset straps i l u st fits => exact fits h

/-! ### The car numbers (R29) -/

/-- Entries that are FREE or hold the car that they held are no threat to the car numbers. -/
theorem carsDistinct_of_kept (hs : s.CarsDistinct)
    (h : ∀ j, (t.entry j).state ≠ .free → (s.entry j).state ≠ .free ∧ (t.entry j).car = (s.entry j).car) : t.CarsDistinct := by
  refine ⟨fun j hj => ?_, fun j k hj hk heq => ?_⟩
  · obtain ⟨hused, hcar⟩ := h j hj
    exact hcar ▸ hs.1 j hused
  · obtain ⟨hj', hcj⟩ := h j hj
    obtain ⟨hk', hck⟩ := h k hk
    exact hs.2 j k hj' hk' (hcj.symm.trans (heq.trans hck))

theorem carsDistinct_setEntry (hs : s.CarsDistinct) (hfree : e.state = .free ↔ (s.entry i).state = .free) (hcar : e.car = (s.entry i).car) :
    (s.setEntry i e).CarsDistinct := by
  refine carsDistinct_of_kept hs fun j => ?_
  rw [entry_setEntry]
  split
  · next hij => exact fun hj => ⟨hij ▸ fun h => hj (hfree.mpr h), hij ▸ hcar⟩
  · exact fun hj => ⟨hj, rfl⟩

/-- An entry for a car that no other holds. -/
theorem carsDistinct_new (hs : s.CarsDistinct) (new : NewEntry s i e) : (s.setEntry i e).CarsDistinct := by
  have hfresh := new.fresh hs
  refine ⟨fun j => ?_, fun j k => ?_⟩
  · rw [entry_setEntry]
    split
    · exact fun _ => new.car
    · exact hs.1 j
  · rw [entry_setEntry, entry_setEntry]
    split <;> split
    · next hj hk => exact fun _ _ _ => hj.symm.trans hk
    · next hj hk => exact fun _ hused heq => absurd heq.symm (hfresh k (Ne.symm hk) hused)
    · next hj hk => exact fun hused _ heq => absurd heq (hfresh j (Ne.symm hj) hused)
    · exact hs.2 j k

theorem carsDistinct_move (h : s.CarsDistinct) (hmove : Move s t) : t.CarsDistinct := by
  cases hmove with
  | port p => cases p <;> exact h
  | roster r edits => exact carsDistinct_of_kept h fun j hj => ⟨fun hfree => hj ((edits j).free.mpr hfree), (edits j).car⟩
  | reclass i cls held => exact carsDistinct_setEntry h .rfl rfl
  | slot i e _ _ new => exact carsDistinct_new h new
  | ask i e _ _ new => exact carsDistinct_new h new
  | clear i =>
    refine carsDistinct_of_kept h fun j => ?_
    rw [entry_clearEntry]
    split
    · exact fun hj => absurd rfl hj
    · exact fun hj => ⟨hj, rfl⟩
  | send i k => exact carsDistinct_setEntry h .rfl rfl
  | carry i k ks => exact carsDistinct_setEntry h .rfl rfl
  | _ => exact h

theorem carsDistinct_stage (h : s.CarsDistinct) (hstage : Stage s t) : t.CarsDistinct := by
  cases hstage with
  | move hmove => exact carsDistinct_move h hmove
  | recore => exact h
  | begin => exact h
  | reset => exact carsDistinct_of_kept h fun j hj => absurd (by rw [entry_afterReset]; rfl) hj

/-! ### The plans (R17, R19) -/

/-- Slotted entries that stay slotted with their cars keep a plan served. -/
theorem serves_of_kept {p : Plan} (h : s.Serves p)
    (hkept : ∀ j, (s.entry j).state.slotted = true → (t.entry j).state.slotted = true ∧ (t.entry j).car = (s.entry j).car) : t.Serves p := by
  intro q hq hlive
  obtain ⟨hslotted, hcar⟩ := h q hq hlive
  obtain ⟨hslotted', hcar'⟩ := hkept q.index hslotted
  exact ⟨hslotted', hcar'.trans hcar⟩

theorem serves_of_follows {p p' : Plan} (h : s.Serves p) (hfollows : PlanFollows s p' p) : s.Serves p' := by
  intro q hq hlive
  obtain ⟨q₀, hq₀, hindex, hcar, hstale, -⟩ := hfollows q hq
  rw [hindex, hcar]
  exact h q₀ hq₀ (hstale hlive)

theorem serves_clearEntry {p : Plan} (h : s.Serves p) : (clearEntry i s).Serves (p.markStale i) := by
  intro q hq hlive
  obtain ⟨q₀, hq₀, rfl⟩ := List.mem_map.mp hq
  rw [entry_clearEntry]
  split at hlive
  · exact absurd hlive (by simp)
  · next hne =>
    simp only [if_neg hne, if_neg (Ne.symm hne)]
    exact h q₀ hq₀ hlive

/-- An entry of an index that a plan names is slotted, so it is not FREE. -/
theorem PlanServed.not_free_of_names (h : s.PlanServed) (hn : Names s.engine i) : (s.entry i).state ≠ .free := by
  obtain ⟨ago, q, hq, hlive, rfl⟩ := hn
  have hslotted : (s.entry q.index).state.slotted = true := by
    match ago with
    | 0 => exact (h.plan q hq hlive).1
    | 1 => exact (h.prev q hq hlive).1
    | 2 => exact (h.older q hq hlive).1
  intro hfree
  simp [hfree, EntryState.slotted] at hslotted

/-- What keeps the plans served when the plans themselves stay: the slotted entries keep their cars, and a FREE one is vacant. -/
theorem planServed_of_kept (h : s.PlanServed) (horder : t.OrderExact) (hplan : t.engine.plan = s.engine.plan)
    (hprev : t.engine.prev = s.engine.prev) (holder : t.engine.older = s.engine.older) (hvacant : t.FreeVacant)
    (hkept : ∀ j, (s.entry j).state.slotted = true → (t.entry j).state.slotted = true ∧ (t.entry j).car = (s.entry j).car) : t.PlanServed where
  order := horder
  vacant := hvacant
  plan := hplan ▸ serves_of_kept h.plan hkept
  prev := hprev ▸ serves_of_kept h.prev hkept
  older := holder ▸ serves_of_kept h.older hkept

theorem freeVacant_setEntry (h : s.FreeVacant) (hused : e.state ≠ .free) : (s.setEntry i e).FreeVacant := by
  intro j
  rw [entry_setEntry]
  split
  · exact fun hfree => absurd hfree hused
  · exact h j

/-- One entry replaced: it is not FREE, and if one stood there slotted it keeps its place and car. -/
theorem planServed_setEntry (h : s.PlanServed) (horder : (s.setEntry i e).OrderExact) (hused : e.state ≠ .free)
    (hkept : (s.entry i).state.slotted = true → e.state.slotted = true ∧ e.car = (s.entry i).car) : (s.setEntry i e).PlanServed := by
  refine planServed_of_kept h horder rfl rfl rfl (freeVacant_setEntry h.vacant hused) fun j hj => ?_
  rw [entry_setEntry]
  split
  · next hij => exact hij ▸ hkept (hij ▸ hj)
  · exact ⟨hj, rfl⟩

theorem not_free_of_ne_vacant (h : s.FreeVacant) (hne : s.entry i ≠ Entry.vacant) : (s.entry i).state ≠ .free := fun hfree => hne (h i hfree)

theorem not_free_of_holds {x : EntryState} (h : HoldsCommands x) : x ≠ .free := by
  rintro rfl
  simp [HoldsCommands] at h

theorem planServed_move (h : s.PlanServed) (hmove : Move s t) : t.PlanServed := by
  have horder := orderExact_move h.order hmove
  cases hmove with
  | port p => cases p <;> exact { h with }
  | roster r edits =>
    refine planServed_of_kept h horder rfl rfl rfl (fun j hfree => ?_) fun j hj => ⟨(edits j).slotted.trans hj, (edits j).car⟩
    have hfree : (s.entry j).state = .free := (edits j).free.mp hfree
    rcases (edits j).vacant (h.vacant j hfree) with hv | hn
    · exact hv
    · exact absurd hfree (PlanServed.not_free_of_names h hn)
  | reclass i cls held used => exact planServed_setEntry h horder (not_free_of_ne_vacant h.vacant used) fun hj => ⟨hj, rfl⟩
  | slot i e place slotted =>
    have hset : (s.setEntry i e).FreeVacant := freeVacant_setEntry h.vacant fun hfree => by simp [hfree, EntryState.slotted] at slotted
    refine planServed_of_kept h horder rfl rfl rfl hset fun j hj => ?_
    have hij : i ≠ j := fun hij => by simp [hij ▸ hj] at place
    rw [entry_slotIn, if_neg hij]
    exact ⟨hj, rfl⟩
  | ask i e place pending =>
    exact planServed_setEntry h horder (by simp [pending]) fun hj => by simp [place, EntryState.slotted] at hj
  | clear i =>
    refine ⟨horder, fun j => ?_, serves_clearEntry h.plan, serves_clearEntry h.prev, serves_clearEntry h.older⟩
    rw [entry_clearEntry]
    split
    · exact fun _ => rfl
    · exact h.vacant j
  | plans a b c plan prev older =>
    have hplan : s.Serves a := serves_of_follows h.plan plan
    have hprev : s.Serves b := serves_of_follows h.prev prev
    have holder : s.Serves c := serves_of_follows h.older older
    exact ⟨horder, h.vacant, hplan, hprev, holder⟩
  | send i k holds =>
    have hset := planServed_setEntry (e := { s.entry i with commands := (s.entry i).commands ++ [k] }) h horder (not_free_of_holds holds)
      fun hj => ⟨hj, rfl⟩
    have hforget : ∀ {p : Plan}, (s.setEntry i { s.entry i with commands := (s.entry i).commands ++ [k] }).Serves p →
        (s.setEntry i { s.entry i with commands := (s.entry i).commands ++ [k] }).Serves (p.forgetSent k.number) := by
      intro p hp q hq hlive
      obtain ⟨-, q₀, hq₀, hsame, -⟩ := mem_forgetSent hq
      rw [← hsame] at hq₀
      exact hp { q with sent := q₀.sent } hq₀ hlive
    exact ⟨horder, hset.vacant, hforget hset.plan, hforget hset.prev, hforget hset.older⟩
  | carry i k ks q next head =>
    refine planServed_setEntry h horder (not_free_of_ne_vacant (i := i) h.vacant fun hv => ?_) fun hj => ⟨hj, rfl⟩
    rw [hv] at head
    exact absurd head nofun
  | _ => exact { h with order := horder }

/-- The positions of a plan are those of the order table it is built from (R17). -/
theorem mem_positionsFrom {order : List Index} {start : Nat} {q : Position} (h : q ∈ positionsFrom s start order) :
    ∃ i ∈ order, ∃ n, q = positionAt s i n := by
  induction order generalizing start with
  | nil => exact absurd h nofun
  | cons i is ih =>
    rcases List.mem_cons.mp h with rfl | h
    · exact ⟨i, .head _, _, rfl⟩
    · obtain ⟨j, hj, hq⟩ := ih h
      exact ⟨j, .tail _ hj, hq⟩

theorem serves_buildPlan (h : s.OrderExact) (round : RoundNumber) (grace : Bool) : s.Serves (buildPlan s round grace) := by
  intro q hq _
  obtain ⟨i, hi, n, rfl⟩ := mem_positionsFrom hq
  exact ⟨(h.2 i).mp hi, rfl⟩

theorem planServed_stage (h : s.PlanServed) (hstage : Stage s t) : t.PlanServed := by
  cases hstage with
  | move hmove => exact planServed_move h hmove
  | recore => exact { h with }
  | begin => exact ⟨h.order, h.vacant, serves_buildPlan h.order _ _, h.plan, h.prev⟩
  | reset straps i l u st =>
    exact ⟨orderExact_stage h.order (.reset straps i l u st ‹_› ‹_› ‹_›), fun j _ => entry_afterReset _ _ _ _ _ s j, nofun, nofun, nofun⟩

/-! ### The fields of a handover (R107) -/

theorem handoverFields_vacant : Entry.vacant.HandoverFields := ⟨rfl, rfl, rfl⟩

/-- The fields of a handover and the peers of a roster, together (R107). -/
abbrev HandoverHeld (s : State) : Prop := (∀ i : Index, (s.entry i).HandoverFields) ∧ s.PeersNeighbours

/-- Entries each with its own fields in order, and with peers that are neighbours. -/
theorem handoverHeld_setEntry (h : HandoverHeld s) (hfields : e.HandoverFields) (hpeer : ∀ n, e.peer = some n → (s.portFacing n).isSome = true) :
    HandoverHeld (s.setEntry i e) := by
  refine ⟨fun j => ?_, fun j n => ?_⟩ <;> rw [entry_setEntry] <;> split
  · exact hfields
  · exact h.1 j
  · exact hpeer n
  · exact h.2 j n

theorem handoverHeld_move (h : HandoverHeld s) (hmove : Move s t) : HandoverHeld t := by
  obtain ⟨hfields, hpeers⟩ := h
  cases hmove with
  | port p => cases p <;> exact ⟨hfields, hpeers⟩
  | roster r edits => exact ⟨fun i => (edits i).handover (hfields i), fun i n hn => ((edits i).peer n hn).elim (hpeers i n) id⟩
  | reclass i cls held => exact handoverHeld_setEntry ⟨hfields, hpeers⟩ (hfields i) (hpeers i)
  | slot i e _ _ new => exact handoverHeld_setEntry ⟨hfields, hpeers⟩ new.handover new.peer
  | ask i e _ _ new => exact handoverHeld_setEntry ⟨hfields, hpeers⟩ new.handover new.peer
  | clear i => exact handoverHeld_setEntry ⟨hfields, hpeers⟩ handoverFields_vacant nofun
  | send i k => exact handoverHeld_setEntry ⟨hfields, hpeers⟩ (hfields i) (hpeers i)
  | carry i k ks => exact handoverHeld_setEntry ⟨hfields, hpeers⟩ (hfields i) (hpeers i)
  | settings i l u qs _ peers =>
    refine ⟨hfields, fun j n hn => ?_⟩
    rcases peers with hnode | hnone
    · have hsame : State.portFacing { s with image := i, live := l, unapplied := u, queues := qs } n = s.portFacing n := by
        simp [State.portFacing, hnode]
      exact hsame ▸ hpeers j n hn
    · have hpeer := (hfields j).1
      rw [hnone j, show (s.entry j).peer = some n from hn] at hpeer
      exact absurd hpeer nofun
  | _ => exact ⟨hfields, hpeers⟩

theorem handoverHeld_stage (h : HandoverHeld s) (hstage : Stage s t) : HandoverHeld t := by
  cases hstage with
  | move hmove => exact handoverHeld_move h hmove
  | recore => exact h
  | begin => exact h
  | reset =>
    refine ⟨fun j => ?_, fun j n => ?_⟩ <;> rw [entry_afterReset]
    · exact handoverFields_vacant
    · exact nofun

/-! ### The candidates (R59) -/

theorem candidatesAllowed_setEntry (h : s.CandidatesAllowed)
    (hled : s.image.node.upNeighbour = 0 → s.image.node.downNeighbour = 0 → Unled e) : (s.setEntry i e).CandidatesAllowed := by
  intro hu hd j
  rw [entry_setEntry]
  split
  · exact hled hu hd
  · exact h hu hd j

theorem candidatesAllowed_move (h : s.CandidatesAllowed) (hmove : Move s t) : t.CandidatesAllowed := by
  cases hmove with
  | port p => cases p <;> exact h
  | roster r edits => exact fun hu hd i => (edits i).unled hu hd (h hu hd i)
  | reclass i cls held => exact candidatesAllowed_setEntry h fun hu hd => h hu hd i
  | slot i e _ _ new => exact candidatesAllowed_setEntry h fun _ _ => new.unled
  | ask i e _ _ new => exact candidatesAllowed_setEntry h fun _ _ => new.unled
  | clear i => exact candidatesAllowed_setEntry h fun _ _ => ⟨rfl, rfl, rfl⟩
  | send i k => exact candidatesAllowed_setEntry h fun hu hd => h hu hd i
  | carry i k ks => exact candidatesAllowed_setEntry h fun hu hd => h hu hd i
  | settings i l u qs _ _ unled => exact fun hu hd => unled hu hd h
  | _ => exact h

theorem candidatesAllowed_stage (h : s.CandidatesAllowed) (hstage : Stage s t) : t.CandidatesAllowed := by
  cases hstage with
  | move hmove => exact candidatesAllowed_move h hmove
  | recore => exact h
  | begin => exact h
  | reset => exact fun _ _ j => by rw [entry_afterReset]; exact ⟨rfl, rfl, rfl⟩

end

/-! ### The obligations -/

/-- Settles O4: every stage of a step keeps the order table exact. -/
theorem stepKeepsOrderTable : Obligations.StepKeepsOrderTable := fun _ _ => step_keeps (fun _ _ h => h) orderExact_stage

/-- Settles O5: with the order table exact, every stage of a step keeps its airtime within the period. -/
theorem stepKeepsRoundFits : Obligations.StepKeepsRoundFits := fun _ _ => step_keeps (fun _ _ h => ⟨h.order, h.airtime⟩) roundFits_stage

/-- Settles O6: every stage of a step leaves an entry with its car, FREE, or with one that no other entry holds. -/
theorem stepKeepsCarsDistinct : Obligations.StepKeepsCarsDistinct := fun _ _ => step_keeps (fun _ _ h => h) carsDistinct_stage

/-- Settles O7: an entry that a plan names stays slotted with its car until it is freed, which makes its positions stale. -/
theorem stepKeepsPlanServed : Obligations.StepKeepsPlanServed := fun _ _ => step_keeps (fun _ _ h => { h with }) planServed_stage

/-- Settles O8: every stage of a step keeps the fields of a handover where they may stand, and the candidates. -/
theorem stepKeepsHandoverFields : Obligations.StepKeepsHandoverFields :=
  ⟨fun _ _ => step_keeps (fun _ _ h => h) handoverHeld_stage, fun _ _ => step_keeps (fun _ _ h => h) candidatesAllowed_stage⟩

/-- Settles O9: a step keeps the agreement of the quiet controller, the engine and the radio. -/
theorem stepKeepsQuietSound : Obligations.StepKeepsQuietSound := fun _ _ => quietSound_step

end Sys2Proof.Proofs
end

section
/-!
PROOFS. The invariants of the control link (R164, R165), the record store (R77), the command pool and its numbers (R87 to R90, R102),
the lists (R41, R43, R47) and the chain ports (R131), read off the moves.
-/
namespace Sys2Proof.Proofs
open Sys2Proof.Machine

section
variable {s t : State} {i : Index} {e : Entry}

/-! ### The control link -/

theorem accounted_move (h : s.control.Accounted) (hmove : Move s t) : t.control.Accounted := by
  cases hmove with
  | port p => cases p <;> exact h
  | control k held => exact held h
  | _ => exact h

theorem accounted_stage (h : s.control.Accounted) (hstage : Stage s t) : t.control.Accounted := by
  cases hstage with
  | move hmove => exact accounted_move h hmove
  | recore => exact h
  | begin => exact h
  | reset =>
    exact ⟨Nat.zero_le _, Nat.zero_le _, Nat.zero_le _, Nat.zero_le _, Nat.zero_le _, fun hr => absurd rfl hr, .nil, rfl, rfl⟩

/-! ### The record store -/

theorem recordStoreHeld_setRx {q : Fin 4} {x : RxQueue} (h : s.RecordStoreHeld)
    (within : (s.rx q).Within (s.queueSetting q) → x.Within (s.queueSetting q)) : (s.setRx q x).RecordStoreHeld := by
  refine ⟨fun p => ?_, h.budget⟩
  rw [rx_setRx]
  split
  · next hqp => exact hqp ▸ within (h.queues q)
  · exact h.queues p

theorem recordStoreHeld_move (h : s.RecordStoreHeld) (hmove : Move s t) : t.RecordStoreHeld := by
  cases hmove with
  | port p => cases p <;> exact ⟨h.queues, h.budget⟩
  | rx q x within => exact recordStoreHeld_setRx h within
  | settings i l u qs _ _ _ within budget => exact ⟨fun q => within q (h.queues q), budget h.budget⟩
  | _ => exact ⟨h.queues, h.budget⟩

theorem recordStoreHeld_stage (h : s.RecordStoreHeld) (hstage : Stage s t) : t.RecordStoreHeld := by
  cases hstage with
  | move hmove => exact recordStoreHeld_move h hmove
  | recore => exact ⟨h.queues, h.budget⟩
  | begin => exact ⟨h.queues, h.budget⟩
  | reset straps i l u st _ budget =>
    refine ⟨fun q => ?_, budget h.budget⟩
    have hempty : (s.afterReset straps i l u st).rx q = RxQueue.empty := by simp [State.rx, State.afterReset]
    rw [hempty]
    exact within_empty _

/-! ### Command lists that shrink -/

theorem Shrinks.length_le {new old : List Command} (h : Shrinks new old) : new.length ≤ old.length := by
  induction h with
  | nil => exact Nat.zero_le _
  | cons _ _ ih => exact Nat.succ_le_succ ih
  | cons_right _ ih => exact ih.trans (Nat.le_succ _)

theorem Shrinks.exists_of_mem {new old : List Command} (h : Shrinks new old) {k : Command} (hk : k ∈ new) : ∃ c ∈ old, Follows k c := by
  induction h with
  | nil => exact absurd hk nofun
  | cons hfollows _ ih =>
    rcases List.mem_cons.mp hk with rfl | hk
    · exact ⟨_, .head _, hfollows⟩
    · obtain ⟨c, hc, hkc⟩ := ih hk
      exact ⟨c, .tail _ hc, hkc⟩
  | cons_right _ ih =>
    obtain ⟨c, hc, hkc⟩ := ih hk
    exact ⟨c, .tail _ hc, hkc⟩


theorem Shrinks.tail_left {new old : List Command} (h : Shrinks new old) : Shrinks new.tail old := by
  induction h with
  | nil => exact .nil
  | cons _ hrest _ => exact .cons_right hrest
  | cons_right _ ih => exact .cons_right ih

theorem Shrinks.tail {new old : List Command} (h : Shrinks new old) : Shrinks new.tail old.tail := by
  cases h with
  | nil => exact .nil
  | cons _ hrest => exact hrest
  | cons_right hrest => exact Shrinks.tail_left hrest

theorem Shrinks.numbers {new old : List Command} (h : Shrinks new old) : (new.map Command.number).Sublist (old.map Command.number) := by
  induction h with
  | nil => exact List.nil_sublist _
  | cons hfollows _ ih => simpa [hfollows.number] using ih
  | cons_right _ ih => exact ih.cons _

/-- A roster whose command lists only lost commands, and that holds them where commands may stand. -/
structure PoolShrinks (s t : State) : Prop where
  lists : ∀ j, Shrinks (t.entry j).commands (s.entry j).commands
  holds : ∀ j, (t.entry j).commands ≠ [] → HoldsCommands (s.entry j).state → HoldsCommands (t.entry j).state

theorem PoolShrinks.of_entries (h : ∀ j, t.entry j = s.entry j) : PoolShrinks s t :=
  ⟨fun j => h j ▸ Shrinks.refl _, fun j _ => h j ▸ id⟩

theorem PoolShrinks.setEntry (lists : Shrinks e.commands (s.entry i).commands)
    (holds : e.commands ≠ [] → HoldsCommands (s.entry i).state → HoldsCommands e.state) : PoolShrinks s (s.setEntry i e) := by
  refine ⟨fun j => ?_, fun j => ?_⟩ <;> rw [entry_setEntry] <;> split
  · next hij => exact hij ▸ lists
  · exact .refl _
  · next hij => exact hij ▸ holds
  · exact fun _ => id

/-- An entry without commands. -/
theorem PoolShrinks.without (h : e.commands = []) : PoolShrinks s (s.setEntry i e) :=
  .setEntry (h ▸ .nil) fun hne => absurd h hne

/-! ### The command pool (R87, R88) -/

/-- The pool held by its lists. -/
theorem poolHeld_of_shrinks (h : s.PoolHeld) (hp : PoolShrinks s t) : t.PoolHeld where
  pool := (List.sum_le_sum fun j _ => Shrinks.length_le (hp.lists j)).trans h.pool
  lists := fun j => (Shrinks.length_le (hp.lists j)).trans (h.lists j)
  head := by
    intro j k hk
    obtain ⟨c, hc, hfollows⟩ := Shrinks.exists_of_mem (Shrinks.tail (hp.lists j)) hk
    exact hfollows.seqUsed.elim id fun hsame => hsame.trans (h.head j c hc)
  states := by
    intro j hne
    refine hp.holds j hne (h.states j ?_)
    intro hnil
    have hlen := Shrinks.length_le (hp.lists j)
    rw [hnil] at hlen
    exact hne (List.eq_nil_of_length_eq_zero (Nat.le_zero.mp hlen))

/-- The number of the commands after one entry's list has changed. -/
theorem poolCount_setEntry (s : State) (i : Index) (e : Entry) :
    (s.setEntry i e).poolCount + (s.entry i).commands.length = s.poolCount + e.commands.length := by
  have hsum : ∀ (is : List Index), is.Nodup →
      (is.map fun j => ((s.setEntry i e).entry j).commands.length).sum + (if i ∈ is then (s.entry i).commands.length else 0) =
      (is.map fun j => (s.entry j).commands.length).sum + if i ∈ is then e.commands.length else 0 := by
    intro is
    induction is with
    | nil => simp
    | cons j js ih =>
      intro hnodup
      obtain ⟨hj, hjs⟩ := List.nodup_cons.mp hnodup
      have ih := ih hjs
      rw [List.map_cons, List.map_cons, List.sum_cons, List.sum_cons, entry_setEntry]
      by_cases hij : i = j
      · subst hij
        simp only [hj, if_false, List.mem_cons, true_or, if_true] at ih ⊢
        omega
      · simp only [hij, if_false, List.mem_cons, false_or] at ih ⊢
        omega
  simpa [State.poolCount, indices, List.mem_finRange] using hsum indices (List.nodup_finRange 24)

theorem poolCount_setEntry_of_length {e : Entry} {more : Nat} (length : e.commands.length = (s.entry i).commands.length + more) :
    (s.setEntry i e).poolCount = s.poolCount + more := by
  have := poolCount_setEntry s i e
  omega

/-- A list changed in one entry, the pool and the list within their bounds with it. -/
theorem poolHeld_setEntry {e : Entry} {more : Nat} (h : s.PoolHeld) (length : e.commands.length = (s.entry i).commands.length + more)
    (pool : s.poolCount + more ≤ poolCapacity) (list : e.commands.length ≤ listCapacity)
    (heads : ∀ c ∈ e.commands.tail, c.seqUsed = none) (holds : e.commands ≠ [] → HoldsCommands e.state) : (s.setEntry i e).PoolHeld := by
  constructor
  case pool => exact (poolCount_setEntry_of_length length).trans_le pool
  case lists =>
    intro j
    rw [entry_setEntry]
    split
    · exact list
    · exact h.lists j
  case head =>
    intro j c
    rw [entry_setEntry]
    split
    · exact heads c
    · exact h.head j c
  case states =>
    intro j
    rw [entry_setEntry]
    split
    · exact holds
    · exact h.states j

/-- A list with another head, the pool as large as it was. -/
theorem poolHeld_carry {k d : Command} {ks : List Command} {e : Entry} (h : s.PoolHeld) (head : (s.entry i).commands = k :: ks)
    (commands : e.commands = d :: ks) (state : e.state = (s.entry i).state) : (s.setEntry i e).PoolHeld := by
  have hlists := h.lists i
  have hhead := h.head i
  have hstates := h.states i
  rw [head] at hlists hhead hstates
  refine poolHeld_setEntry (more := 0) h (by rw [head, commands]; rfl) ((Nat.add_zero _).trans_le h.pool) ?_ ?_ fun _ => state ▸ hstates nofun
  · exact commands ▸ hlists
  · exact commands ▸ hhead

/-- A command at the tail of a list with room, in a pool with room. -/
theorem poolHeld_send {k : Command} (h : s.PoolHeld) (holds : HoldsCommands (s.entry i).state) (pool : s.poolCount < poolCapacity)
    (list : (s.entry i).commands.length < listCapacity) (waiting : k.seqUsed = none) : (addCommand i k s).PoolHeld := by
  have hset : (s.setEntry i { s.entry i with commands := (s.entry i).commands ++ [k] }).PoolHeld := by
    refine poolHeld_setEntry (more := 1) h List.length_append pool (List.length_append.trans_le list) (fun c hc => ?_) fun _ => holds
    cases hcs : (s.entry i).commands with
    | nil => simp [hcs] at hc
    | cons d ds =>
      simp only [hcs, List.cons_append, List.tail_cons, List.mem_append, List.mem_singleton] at hc
      rcases hc with hc | rfl
      · exact h.head i c (by rw [hcs]; exact hc)
      · exact waiting
  exact poolHeld_of_shrinks hset (.of_entries fun _ => rfl)

/-- What a move does to the pool: it only loses commands, but for the one that a slot carries or a SEND adds. -/
theorem poolShrinks_of_move (hmove : Move s t) : PoolShrinks s t ∨
    (∃ i k ks q next, (s.entry i).commands = k :: ks ∧
      t = s.setEntry i { s.entry i with nextSeq := next, commands := { k with seqUsed := some q, sent := true } :: ks }) ∨
    ∃ i k, t = addCommand i k s ∧ HoldsCommands (s.entry i).state ∧ s.poolCount < poolCapacity ∧
      (s.entry i).commands.length < listCapacity ∧ k.seqUsed = none ∧
      (s.NumbersHeld → k.number ≠ 0 ∧ ∀ j, ∀ c ∈ (s.entry j).commands, c.number ≠ k.number) := by
  cases hmove with
  | port p => cases p <;> exact .inl (.of_entries fun _ => rfl)
  | roster r edits => exact .inl ⟨fun i => (edits i).commands, fun i _ => (edits i).holds⟩
  | reclass i cls held => exact .inl (.setEntry (.refl _) fun _ => id)
  | slot i e _ _ new =>
    have hset : PoolShrinks s (s.setEntry i e) := .without new.commands
    exact .inl ⟨hset.lists, hset.holds⟩
  | ask i e _ _ new => exact .inl (.without new.commands)
  | clear i =>
    have hset : PoolShrinks s (s.setEntry i Entry.vacant) := .without rfl
    exact .inl ⟨hset.lists, hset.holds⟩
  | carry i k ks q next head => exact .inr (.inl ⟨i, k, ks, q, next, head, rfl⟩)
  | send i k holds pool list waiting number => exact .inr (.inr ⟨i, k, rfl, holds, pool, list, waiting, number⟩)
  | _ => exact .inl (.of_entries fun _ => rfl)

theorem poolHeld_stage (h : s.PoolHeld) (hstage : Stage s t) : t.PoolHeld := by
  cases hstage with
  | move hmove =>
    rcases poolShrinks_of_move hmove with hp | ⟨i, k, ks, q, next, head, rfl⟩ | ⟨i, k, rfl, holds, pool, list, waiting, -⟩
    · exact poolHeld_of_shrinks h hp
    · exact poolHeld_carry h head rfl rfl
    · exact poolHeld_send h holds pool list waiting
  | recore => exact poolHeld_of_shrinks h (.of_entries fun _ => rfl)
  | begin => exact poolHeld_of_shrinks h (.of_entries fun _ => rfl)
  | reset straps im l u st =>
    refine poolHeld_of_shrinks h ⟨fun j => ?_, fun j hne => ?_⟩
    · rw [entry_afterReset]
      exact .nil
    · rw [entry_afterReset] at hne
      exact absurd rfl hne

/-! ### The numbers (R87, R90, R102) -/

/-- No two commands of the pool have a number: within a list, and between two lists. -/
theorem unique_iff (s : State) : (indices.flatMap fun i => (s.entry i).commands.map Command.number).Nodup ↔
    (∀ i, ((s.entry i).commands.map Command.number).Nodup) ∧
      ∀ i j, i ≠ j → ∀ k ∈ (s.entry i).commands, ∀ c ∈ (s.entry j).commands, k.number ≠ c.number := by
  rw [List.nodup_flatMap]
  constructor
  · rintro ⟨hlists, hdisjoint⟩
    refine ⟨fun i => hlists i (List.mem_finRange i), fun i j hij k hk c hc heq => ?_⟩
    have hsymm : Std.Symm (Function.onFun List.Disjoint fun i => (s.entry i).commands.map Command.number) := ⟨fun _ _ => List.Disjoint.symm⟩
    exact hdisjoint.forall (List.mem_finRange i) (List.mem_finRange j) hij (List.mem_map_of_mem hk) (heq ▸ List.mem_map_of_mem hc)
  · rintro ⟨hlists, hdistinct⟩
    refine ⟨fun i _ => hlists i, (List.nodup_finRange 24).pairwise_of_forall_ne fun i _ j _ hij n hi hj => ?_⟩
    obtain ⟨k, hk, hkn⟩ := List.mem_map.mp hi
    obtain ⟨c, hc, hcn⟩ := List.mem_map.mp hj
    exact hdistinct i j hij k hk c hc (hkn.trans hcn.symm)

/-- A pool that lost commands, its plans naming only commands that they named. -/
theorem numbersHeld_of_shrinks (h : s.NumbersHeld) (hp : PoolShrinks s t) (hnext : t.nextCommand = s.nextCommand)
    (hbroadcasts : t.nextBroadcast ≠ 0 ∧ (∀ b ∈ t.broadcasts, b.id ≠ 0) ∧ (t.broadcasts.map Broadcast.id).Nodup ∧
      t.broadcasts.length ≤ broadcastCapacity)
    (hplans : ∀ ago, ∀ q ∈ (t.engine.planOf ago).positions, ∀ n, q.sent = .command n →
      (∃ ago', ∃ p ∈ (s.engine.planOf ago').positions, p.sent = .command n) ∨ ∀ i, ∀ k ∈ (s.entry i).commands, k.number = n → k.sent = true) :
    t.NumbersHeld := by
  obtain ⟨hlists, hdistinct⟩ := (unique_iff s).mp h.unique
  obtain ⟨hnextId, hids, hunique, hqueue⟩ := hbroadcasts
  exact {
    next := hnext ▸ h.next
    numbers := fun i k hk => by
      obtain ⟨c, hc, hfollows⟩ := Shrinks.exists_of_mem (hp.lists i) hk
      exact hfollows.number ▸ h.numbers i c hc
    unique := by
      refine (unique_iff t).mpr ⟨fun i => (hlists i).sublist (Shrinks.numbers (hp.lists i)), fun i j hij k hk d hd => ?_⟩
      obtain ⟨c, hc, hkc⟩ := Shrinks.exists_of_mem (hp.lists i) hk
      obtain ⟨f, hf, hdf⟩ := Shrinks.exists_of_mem (hp.lists j) hd
      rw [hkc.number, hdf.number]
      exact hdistinct i j hij c hc f hf
    nextId := hnextId
    ids := hids
    uniqueIds := hunique
    queue := hqueue
    outstanding := fun i k hk hused => by
      obtain ⟨c, hc, hfollows⟩ := Shrinks.exists_of_mem (hp.lists i) hk
      refine hfollows.sent (h.outstanding i c hc fun hnone => hused ?_)
      exact hfollows.seqUsed.elim id fun hsame => hsame.trans hnone
    carried := fun ago q hq i k hk hsent => by
      obtain ⟨c, hc, hfollows⟩ := Shrinks.exists_of_mem (hp.lists i) hk
      rcases hplans ago q hq _ hsent with ⟨ago', p, hp', hcarried⟩ | hall
      · exact hfollows.sent (h.carried ago' p hp' i c hc (hfollows.number ▸ hcarried))
      · exact hfollows.sent (hall i c hc hfollows.number.symm) }

/-- What of the numbers no move but a BROADCAST touches. -/
theorem NumbersHeld.broadcasts_held (h : s.NumbersHeld) : s.nextBroadcast ≠ 0 ∧ (∀ b ∈ s.broadcasts, b.id ≠ 0) ∧
    (s.broadcasts.map Broadcast.id).Nodup ∧ s.broadcasts.length ≤ broadcastCapacity := ⟨h.nextId, h.ids, h.uniqueIds, h.queue⟩

/-- A command carried by a slot: it is now sent, and its list as it was but for that. -/
theorem numbersHeld_carry {k : Command} {ks : List Command} {q next : Seq} (h : s.NumbersHeld) (head : (s.entry i).commands = k :: ks) :
    (s.setEntry i { s.entry i with nextSeq := next, commands := { k with seqUsed := some q, sent := true } :: ks }).NumbersHeld := by
  obtain ⟨hlists, hdistinct⟩ := (unique_iff s).mp h.unique
  generalize hk' : { k with seqUsed := some q, sent := true } = k'
  have hnumber : k'.number = k.number := by rw [← hk']
  have hsent : k'.sent = true := by rw [← hk']
  have hcommands : ∀ j, ∀ c ∈ ((s.setEntry i { s.entry i with nextSeq := next, commands := k' :: ks }).entry j).commands,
      ∃ d ∈ (s.entry j).commands, c.number = d.number ∧ (c = d ∨ c.sent = true) := by
    intro j c
    rw [entry_setEntry]
    split
    · next hij =>
      intro hc
      rw [← hij, head]
      rcases List.mem_cons.mp hc with rfl | hc
      · exact ⟨k, .head _, hnumber, .inr hsent⟩
      · exact ⟨c, .tail _ hc, rfl, .inl rfl⟩
    · exact fun hc => ⟨c, hc, rfl, .inl rfl⟩
  refine { h with numbers := ?_, unique := ?_, outstanding := ?_, carried := ?_ }
  · intro j c hc
    obtain ⟨d, hd, heq, -⟩ := hcommands j c hc
    exact heq ▸ h.numbers j d hd
  · refine (unique_iff _).mpr ⟨fun j => ?_, fun j l hjl c hc f hf => ?_⟩
    · rw [entry_setEntry]
      split
      · have hlist := hlists i
        rw [head] at hlist
        simpa [hnumber] using hlist
      · exact hlists j
    · obtain ⟨d, hd, hcd, -⟩ := hcommands j c hc
      obtain ⟨g, hg, hfg, -⟩ := hcommands l f hf
      rw [hcd, hfg]
      exact hdistinct j l hjl d hd g hg
  · intro j c hc hused
    obtain ⟨d, hd, -, rfl | hcs⟩ := hcommands j c hc
    · exact h.outstanding j c hd hused
    · exact hcs
  · intro ago p hp j c hc hcarried
    obtain ⟨d, hd, heq, rfl | hcs⟩ := hcommands j c hc
    · exact h.carried ago p hp j c hd hcarried
    · exact hcs

/-- A command added under a number that none has; no slot names it (R90, R94). -/
theorem numbersHeld_send {k : Command} (h : s.NumbersHeld) (waiting : k.seqUsed = none)
    (number : k.number ≠ 0 ∧ ∀ j, ∀ c ∈ (s.entry j).commands, c.number ≠ k.number) : (addCommand i k s).NumbersHeld := by
  obtain ⟨hlists, hdistinct⟩ := (unique_iff s).mp h.unique
  obtain ⟨hne, hfresh⟩ := number
  have hentry : ∀ j, (addCommand i k s).entry j =
      if i = j then { s.entry i with commands := (s.entry i).commands ++ [k] } else s.entry j := fun j => entry_setEntry s i j _
  have hcommands : ∀ j, ∀ c ∈ ((addCommand i k s).entry j).commands, c ∈ (s.entry j).commands ∨ (c = k ∧ i = j) := by
    intro j c
    rw [hentry]
    split
    · next hij =>
      intro hc
      rcases List.mem_append.mp hc with hc | hc
      · exact .inl (hij ▸ hc)
      · exact .inr ⟨List.mem_singleton.mp hc, hij⟩
    · exact .inl
  refine { h with next := ?_, numbers := ?_, unique := ?_, outstanding := ?_, carried := ?_ }
  · obtain ⟨hlow, hhigh⟩ := numberAfter_range 65535 k.number.toNat (by decide)
    intro h0
    have hz : (BitVec.ofNat 16 (numberAfter 65535 k.number.toNat)).toNat = 0 := congrArg BitVec.toNat h0
    rw [BitVec.toNat_ofNat, Nat.mod_eq_of_lt (by omega)] at hz
    omega
  · intro j c hc
    rcases hcommands j c hc with hc | ⟨rfl, -⟩
    · exact h.numbers j c hc
    · exact hne
  · refine (unique_iff _).mpr ⟨fun j => ?_, fun j l hjl c hc f hf => ?_⟩
    · rw [hentry]
      split
      · rw [List.map_append]
        exact List.nodup_append.mpr ⟨hlists i, by simp, by simpa using hfresh i⟩
      · exact hlists j
    · rcases hcommands j c hc with hc | ⟨rfl, hij⟩ <;> rcases hcommands l f hf with hf | ⟨rfl, hil⟩
      · exact hdistinct j l hjl c hc f hf
      · exact hfresh j c ‹_›
      · exact (hfresh l f hf).symm
      · exact absurd (hij.symm.trans hil) hjl
  · intro j c hc hused
    rcases hcommands j c hc with hc | ⟨rfl, -⟩
    · exact h.outstanding j c hc hused
    · exact absurd waiting hused
  · intro ago p hp j c hc hcarried
    have hp : p ∈ ((s.engine.planOf ago).forgetSent k.number).positions := by
      rw [← forgetSent_planOf]
      exact hp
    obtain ⟨hforgot, q, hq, -, hkept, hgone⟩ := mem_forgetSent hp
    rcases hcommands j c hc with hc | ⟨rfl, -⟩
    · by_cases hqs : q.sent = .command k.number
      · rw [hgone hqs] at hcarried
        exact absurd hcarried nofun
      · exact h.carried ago q hq j c hc (hkept hqs ▸ hcarried)
    · exact absurd hcarried hforgot

theorem numbersHeld_move (h : s.NumbersHeld) (hmove : Move s t) : t.NumbersHeld := by
  have hsame : ∀ {u : State}, PoolShrinks s u → u.nextCommand = s.nextCommand → u.nextBroadcast = s.nextBroadcast →
      u.broadcasts = s.broadcasts → u.engine = s.engine → u.NumbersHeld := by
    intro u hp hn hb hbs he
    refine numbersHeld_of_shrinks h hp hn (by rw [hb, hbs]; exact NumbersHeld.broadcasts_held h) fun ago q hq n hs => .inl ⟨ago, q, ?_, hs⟩
    rw [← he]
    exact hq
  rcases poolShrinks_of_move hmove with hp | ⟨i, k, ks, q, next, head, rfl⟩ | ⟨i, k, rfl, -, -, -, waiting, number⟩
  · cases hmove with
    | port p => cases p <;> exact hsame hp rfl rfl rfl rfl
    | clear i =>
      refine numbersHeld_of_shrinks h hp rfl (NumbersHeld.broadcasts_held (s := s) h) fun ago q hq n hs => .inl ⟨ago, ?_⟩
      have hq : q ∈ ((s.engine.planOf ago).markStale i).positions := by
        match ago with
        | 0 => exact hq
        | 1 => exact hq
        | 2 => exact hq
      obtain ⟨q₀, hq₀, rfl⟩ := List.mem_map.mp hq
      refine ⟨q₀, hq₀, ?_⟩
      split at hs <;> exact hs
    | broadcasts bs n few numbers =>
      obtain ⟨hn, hids, hunique⟩ := numbers h
      exact numbersHeld_of_shrinks h hp rfl ⟨hn, hids, hunique, few h.queue⟩ fun ago q hq n hs => .inl ⟨ago, q, hq, hs⟩
    | plans a b c plan prev older =>
      refine numbersHeld_of_shrinks h hp rfl (NumbersHeld.broadcasts_held (s := s) h) fun ago q hq n hs => ?_
      have hfollows : ∀ {new old : Plan}, PlanFollows s new old → q ∈ new.positions →
          (∃ p ∈ old.positions, p.sent = .command n) ∨ ∀ i, ∀ k ∈ (s.entry i).commands, k.number = n → k.sent = true := by
        intro new old hf hq
        obtain ⟨p, hp, -, -, -, hsent⟩ := hf q hq
        rcases hsent h n hs with hps | hall
        · exact .inl ⟨p, hp, hps⟩
        · exact .inr hall
      match ago with
      | 0 => exact (hfollows plan hq).imp (fun hp => ⟨0, hp⟩) id
      | 1 => exact (hfollows prev hq).imp (fun hp => ⟨1, hp⟩) id
      | 2 => exact (hfollows older hq).imp (fun hp => ⟨2, hp⟩) id
    | send i k holds pool list waiting number => exact numbersHeld_send h waiting (number h)
    | _ => exact hsame hp rfl rfl rfl rfl
  · exact numbersHeld_carry h head
  · exact numbersHeld_send h waiting (number h)

theorem ids_spendRepeat (bs : List Broadcast) : (spendRepeat bs).map Broadcast.id = bs.map Broadcast.id := by
  cases bs <;> rfl

theorem length_spendRepeat (bs : List Broadcast) : (spendRepeat bs).length = bs.length := by
  cases bs <;> rfl

theorem numbersHeld_stage (h : s.NumbersHeld) (hstage : Stage s t) : t.NumbersHeld := by
  cases hstage with
  | move hmove => exact numbersHeld_move h hmove
  | recore => exact { h with carried := fun ago => by match ago with | 0 => exact h.carried 0 | 1 => exact h.carried 1 | 2 => exact h.carried 2 }
  | begin =>
    refine numbersHeld_of_shrinks h (.of_entries fun _ => rfl) rfl ⟨h.nextId, fun b hb => ?_, ?_, ?_⟩ fun ago q hq n hs => ?_
    · have hid : b.id ∈ (spendRepeat s.broadcasts).map Broadcast.id := List.mem_map_of_mem hb
      rw [ids_spendRepeat] at hid
      obtain ⟨c, hc, heq⟩ := List.mem_map.mp hid
      exact heq ▸ h.ids c hc
    · exact (ids_spendRepeat s.broadcasts).symm ▸ h.uniqueIds
    · exact (length_spendRepeat s.broadcasts).trans_le h.queue
    · match ago with
      | 0 =>
        obtain ⟨i, -, m, rfl⟩ := mem_positionsFrom hq
        exact absurd hs nofun
      | 1 => exact .inl ⟨0, q, hq, hs⟩
      | 2 => exact .inl ⟨1, q, hq, hs⟩
  | reset straps im l u st =>
    refine numbersHeld_of_shrinks (s := { s with nextCommand := 1 }) { h with next := by simp } ⟨fun j => ?_, fun j hne => ?_⟩ rfl
      ⟨nofun, nofun, .nil, Nat.zero_le _⟩ fun ago q hq => ?_
    · rw [entry_afterReset]
      exact .nil
    · rw [entry_afterReset] at hne
      exact absurd rfl hne
    · match ago with
      | 0 => exact absurd hq nofun
      | 1 => exact absurd hq nofun
      | 2 => exact absurd hq nofun

/-! ### The lists (R41, R43, R47, R102) and the ports (R131) -/

theorem listsHeld_move (h : s.ListsHeld) (hmove : Move s t) : t.ListsHeld := by
  cases hmove with
  | port p => cases p <;> exact { h with }
  | clear i =>
    exact { h with
      answers := List.filter_sublist.length_le.trans h.answers
      answerCars := h.answerCars.sublist (List.filter_sublist.map _) }
  | lists as bs answers bars =>
    obtain ⟨hbars, hbarCars, hbarRounds⟩ := bars h
    exact { h with answers := (answers h).1, answerCars := (answers h).2, bars := hbars, barCars := hbarCars, barRounds := hbarRounds }
  | broadcasts bs n few => exact { h with broadcasts := few h.broadcasts }
  | settings i l u qs _ _ _ _ _ grace => exact { h with grace := ⟨h.grace.1, grace h⟩ }
  | _ => exact { h with }

theorem graceAt_le {resume : Bool} {setting count : Nat} (hs : setting ≤ 4) (hc : count ≤ 4) : (graceAt resume setting count).1 ≤ 4 := by
  unfold graceAt
  split
  · exact hs
  · exact (Nat.sub_le _ _).trans hc

theorem listsHeld_stage (h : s.ListsHeld) (hstage : Stage s t) : t.ListsHeld := by
  cases hstage with
  | move hmove => exact listsHeld_move h hmove
  | recore => exact { h with }
  | begin =>
    obtain ⟨hgrace, hlive, himage⟩ := h.grace
    exact { h with
      answers := (List.drop_sublist _ _).length_le.trans h.answers
      answerCars := h.answerCars.sublist ((List.drop_sublist _ _).map _)
      broadcasts := (length_spendRepeat s.broadcasts).trans_le h.broadcasts
      grace := ⟨graceAt_le hlive hgrace, hlive, himage⟩ }
  | reset straps im l u st _ _ grace =>
    exact ⟨Nat.zero_le _, .nil, Nat.zero_le _, .nil, nofun, Nat.zero_le _, Nat.zero_le _, grace h⟩

/-- Both chain ports within their bounds. -/
abbrev PortsHeld (s : State) : Prop := s.ports.up.Held ∧ s.ports.down.Held

theorem portsHeld_move (h : PortsHeld s) (hmove : Move s t) : PortsHeld t := by
  cases hmove with
  | port p x held =>
    cases p with
    | up => exact ⟨held h.1, h.2⟩
    | down => exact ⟨h.1, held h.2⟩
  | _ => exact h

theorem port_held_afterReset : Port.afterReset.Held :=
  ⟨Nat.zero_le _, Nat.zero_le _, fun _ => ⟨rfl, rfl⟩, fun _ => ⟨rfl, rfl⟩, counters_zero_inRange⟩

theorem portsHeld_stage (h : PortsHeld s) (hstage : Stage s t) : PortsHeld t := by
  cases hstage with
  | move hmove => exact portsHeld_move h hmove
  | recore => exact h
  | begin => exact h
  | reset => exact ⟨port_held_afterReset, port_held_afterReset⟩

end

/-! ### The obligations -/

/-- Settles O10: every stage of a step that touches the control link keeps its accounting. -/
theorem stepKeepsControlAccounted : Obligations.StepKeepsControlAccounted := fun _ _ => step_keeps (fun _ _ h => h) accounted_stage

/-- Settles O11: a record is kept cut to the storage size while there is room, and a SET of QUEUES empties what it reshapes. -/
theorem stepKeepsRecordStore : Obligations.StepKeepsRecordStore := fun _ _ => step_keeps (fun _ _ h => { h with }) recordStoreHeld_stage

/-- Settles O12: lists only lose commands but for the one that a SEND adds, under a number that none has. -/
theorem stepKeepsCommandPool : Obligations.StepKeepsCommandPool :=
  ⟨fun _ _ => step_keeps (fun _ _ h => { h with }) poolHeld_stage, fun _ _ _ => step_keeps (fun _ _ h => { h with }) numbersHeld_stage⟩

/-- Settles O13: every stage of a step keeps the lists and the ports within their bounds. -/
theorem stepKeepsListsAndPorts : Obligations.StepKeepsListsAndPorts :=
  ⟨fun _ _ => step_keeps (fun _ _ h => { h with }) listsHeld_stage, fun _ _ => step_keeps (fun _ _ h => h) portsHeld_stage⟩

end Sys2Proof.Proofs
end

section
/-!
PROOFS. The machine as a whole: how a command reaches the part, what is due at once, the resets and start-up (log 9, log 20, 11.4).
-/
namespace Sys2Proof.Proofs
open Sys2Proof.Machine

section
variable {s t : State} {c : Instr}

/-! ### How a command reaches the part -/

/-- A request row is a request decided by its owner. -/
theorem exec_request (h : (requestOf c).isSome = true) : ∃ d, ∀ s, exec c s = onRequest c d s := by
  cases c with
  | status tag => exact ⟨decideStatus, fun _ => rfl⟩
  | restart tag => exact ⟨decideRestart, fun _ => rfl⟩
  | set tag group fields => exact ⟨decideSet group fields, fun _ => rfl⟩
  | get tag group => exact ⟨decideGet group, fun _ => rfl⟩
  | save tag => exact ⟨decideSave, fun _ => rfl⟩
  | start tag => exact ⟨decideStart, fun _ => rfl⟩
  | stop tag => exact ⟨decideStop, fun _ => rfl⟩
  | stepRound tag => exact ⟨decideStep, fun _ => rfl⟩
  | plan tag => exact ⟨decidePlan, fun _ => rfl⟩
  | roster tag part first => exact ⟨decideRoster part first, fun _ => rfl⟩
  | admitCar tag car => exact ⟨forCar car (decideAdmit car), fun _ => rfl⟩
  | deny tag car bar => exact ⟨forCar car (decideDeny car bar.toNat), fun _ => rfl⟩
  | evict tag car bar => exact ⟨forCar car (decideEvict car bar.toNat), fun _ => rfl⟩
  | setOrder tag list => exact ⟨decideSetOrder list, fun _ => rfl⟩
  | survey tag car value => exact ⟨decideSurvey car value, fun _ => rfl⟩
  | send tag car kind payload expiry flag => exact ⟨decideSend car kind payload expiry flag, fun _ => rfl⟩
  | withdraw tag n => exact ⟨decideWithdraw n, fun _ => rfl⟩
  | broadcast tag payload repeats urgent => exact ⟨decideBroadcast payload repeats urgent, fun _ => rfl⟩
  | take tag queue count => exact ⟨forQueue queue (decideTake count), fun _ => rfl⟩
  | peek tag queue => exact ⟨forQueue queue decidePeek, fun _ => rfl⟩
  | flush tag queue => exact ⟨forQueue queue decideFlush, fun _ => rfl⟩
  | quiet tag value m => exact ⟨decideQuiet value m, fun _ => rfl⟩
  | counts tag scope index => exact ⟨decideCounts scope index, fun _ => rfl⟩
  | clearCounts tag scope index => exact ⟨decideClearCounts scope index, fun _ => rfl⟩
  | _ => cases h

/-- A command that waits for what is due is an event. -/
theorem exec_event (h : waitsForDue c = true) : ∃ f, ∀ s, exec c s = onEvent f s := by
  cases hr : requestOf c with
  | some r =>
    obtain ⟨d, hd⟩ := exec_request (c := c) (by rw [hr]; rfl)
    exact ⟨_, hd⟩
  | none =>
    cases c with
    | requestReceived kind tag body => exact ⟨receiveRequest { kind := kind, tag := tag, body := body }, fun _ => rfl⟩
    | controlBadFrame => exact ⟨controlBad, fun _ => rfl⟩
    | controlGapTimeout => exact ⟨controlBad, fun _ => rfl⟩
    | badRequest kind tag body => exact ⟨serveBadRequest { kind := kind, tag := tag, body := body }, fun _ => rfl⟩
    | restartTakesEffect quietReq => exact ⟨restartEffect quietReq, fun _ => rfl⟩
    | saveEraseDone => exact ⟨eraseDone, fun _ => rfl⟩
    | saveByteProgrammed readBack => exact ⟨programmed readBack, fun _ => rfl⟩
    | controlFrameSent => exact ⟨fun t => { t with control := t.control.frameSent }, fun _ => rfl⟩
    | roundComplete => exact ⟨completeRound, fun _ => rfl⟩
    | slotStart k => exact ⟨beginSlot k.val, fun _ => rfl⟩
    | uplinkWindowClose ago k r => exact ⟨closeAt ago k.val r, fun _ => rfl⟩
    | joinWindowClose ago k r => exact ⟨closeJoinAt ago k r, fun _ => rfl⟩
    | strayBurst => exact ⟨strayBurst, fun _ => rfl⟩
    | quietBreach car silent => exact ⟨breach car silent, fun _ => rfl⟩
    | lineClaimArrives m => exact ⟨lineArrives m, fun _ => rfl⟩
    | lineClaimWithdrawn => exact ⟨lineWithdrawn, fun _ => rfl⟩
    | drainEnd => exact ⟨drained, fun _ => rfl⟩
    | offerReceived p src dst b => exact ⟨receiveHandover p src dst (Offer.read b) (decideOffer p src), fun _ => rfl⟩
    | acceptReceived p src dst b => exact ⟨receiveHandover p src dst (readAccept b) (decideAccept p src b.car), fun _ => rfl⟩
    | refuseReceived p src dst car reason => exact ⟨receiveHandover p src dst (readRefuse car reason) (decideRefuse src), fun _ => rfl⟩
    | doneReceived p src dst car => exact ⟨receiveHandover p src dst (carInRange car) (decideDone src), fun _ => rfl⟩
    | cancelReceived p src dst car => exact ⟨receiveHandover p src dst (carInRange car) (decideCancel src), fun _ => rfl⟩
    | passReceived p src dst hop b => exact ⟨receivePass p hop b, fun _ => rfl⟩
    | chainBadFrame p => exact ⟨fun t => t.updatePort p Port.badFrame, fun _ => rfl⟩
    | portUp p => exact ⟨fun t => t.updatePort p Port.comeUp, fun _ => rfl⟩
    | portDown p receiving => exact ⟨fun t => t.updatePort p (Port.goDown receiving), fun _ => rfl⟩
    | chainFrameSent p => exact ⟨fun t => t.updatePort p Port.frameSent, fun _ => rfl⟩
    | quietTimerTick => exact ⟨tickQuiet, fun _ => rfl⟩
    | status | restart | set | get | save | start | stop | stepRound | plan | roster | admitCar | deny | evict
    | setOrder | survey | send | withdraw | broadcast | take | peek | flush | quiet | counts | clearCounts => cases hr
    | _ => cases h

/-- A command that does not, but for the two of the reset, belongs to a round start. -/
theorem exec_row (h : waitsForDue c = false) (hreset : c ≠ .resetAsserted) (hfull : ∀ cause straps q, c ≠ .fullReset cause straps q) :
    ∃ f, ∀ s, exec c s = onRoundStart f s := by
  cases c with
  | resetAsserted => exact absurd rfl hreset
  | fullReset cause straps q => exact absurd rfl (hfull cause straps q)
  | roundStart => exact ⟨startDueRound, fun _ => rfl⟩
  | offerTimerExpiry i => exact ⟨whenDue (phaseDue i .offering) (offerExpired i), fun _ => rfl⟩
  | moveTimerExpiry i => exact ⟨whenDue (phaseDue i .moving) (moveExpired i), fun _ => rfl⟩
  | arrivalTimerExpiry i => exact ⟨whenDue (phaseDue i .arriving) (arrivalExpired i), fun _ => rfl⟩
  | confirmTimerExpiry i => exact ⟨whenDue (fun t => (t.entry i).confirmRunsOut) (confirmExpired i), fun _ => rfl⟩
  | barExpiry car => exact ⟨whenDue (barDue car) (removeBar car), fun _ => rfl⟩
  | commandExpiry n => exact ⟨whenDue (commandDue n) (expireCommand n), fun _ => rfl⟩
  | broadcastDone => exact ⟨id, fun _ => rfl⟩
  | _ => cases h

theorem exec_inReset (hs : s.inReset = true) (hreset : c ≠ .resetAsserted) (hfull : ∀ cause straps q, c ≠ .fullReset cause straps q) :
    exec c s = .next s := by
  cases hw : waitsForDue c with
  | true =>
    obtain ⟨f, hf⟩ := exec_event hw
    exact (hf s).trans (onEvent_inReset f hs)
  | false =>
    obtain ⟨f, hf⟩ := exec_row hw hreset hfull
    exact (hf s).trans (onRoundStart_inReset f hs)

/-- Every command has a next state. -/
theorem exec_next (c : Instr) (s : State) : ∃ t, exec c s = .next t := by
  cases hw : waitsForDue c with
  | true =>
    obtain ⟨f, hf⟩ := exec_event hw
    exact ⟨_, hf s⟩
  | false =>
    by_cases hreset : c = .resetAsserted
    · exact ⟨enterReset s, hreset ▸ rfl⟩
    · by_cases hfull : ∃ cause straps q, c = .fullReset cause straps q
      · obtain ⟨cause, straps, q, rfl⟩ := hfull
        exact ⟨_, rfl⟩
      · obtain ⟨f, hf⟩ := exec_row hw hreset fun cause straps q h => hfull ⟨cause, straps, q, h⟩
        exact ⟨_, hf s⟩

/-- Two states out of reset that settle alike have the same effect of a command that waits for what is due. -/
theorem exec_of_settle (h : waitsForDue c = true) (hs : s.inReset = false) (ht : t.inReset = false) (hsettle : settle s = settle t) :
    exec c s = exec c t := by
  obtain ⟨f, hf⟩ := exec_event h
  simp [hf, onEvent, hs, ht, hsettle]

/-! ### A request that is taken -/

theorem onRequest_decided {d : State → Decision} {x : Status} {body : List Byte} {f : State → State} (h : s.Takes c)
    (hd : d s = { status := x, body := body, effect := f }) : onRequest c d s = .next (f (s.answered c x body)) := by
  rw [onRequest_of_takes d h, hd]

theorem onRequest_refuse {d : State → Decision} {x : Status} (h : s.Takes c) (hd : d s = .refuse x) :
    onRequest c d s = .next (s.answered c x []) := onRequest_decided h hd

theorem onRequest_answer {d : State → Decision} {x : Status} {body : List Byte} (h : s.Takes c) (hd : d s = .answer x body) :
    onRequest c d s = .next (s.answered c x body) := onRequest_decided h hd

theorem onRequest_accept {d : State → Decision} {f : State → State} (h : s.Takes c) (hd : d s = .accept f) :
    onRequest c d s = .next (f (s.answered c .ok [])) := onRequest_decided h hd

/-! ### What is due at once -/

theorem finishBroadcast_spent {b : Broadcast} {bs : List Broadcast} (hb : s.broadcasts = b :: bs) (h0 : b.repeats = 0) :
    finishBroadcast s = notify (.broadcastDone b.id) { s with broadcasts := bs } := by
  simp [finishBroadcast, hb, h0]

theorem broadcastSpent_eq_false (h : ∀ x xs, s.broadcasts = x :: xs → x.repeats ≠ 0) : s.broadcastSpent = false := by
  unfold State.broadcastSpent
  split
  · rfl
  · next b bs hb => simpa using h b bs hb

/-- A spent broadcast removed, and no other behind it: settling goes on from there. -/
theorem settle_spent {b : Broadcast} {bs : List Broadcast} (hb : s.broadcasts = b :: bs) (h0 : b.repeats = 0)
    (hnext : ∀ x xs, bs = x :: xs → x.repeats ≠ 0) :
    settle s = settle (notify (.broadcastDone b.id) { s with broadcasts := bs }) := by
  have hdone : (notify (.broadcastDone b.id) { s with broadcasts := bs }).broadcastSpent = false := broadcastSpent_eq_false hnext
  simp only [settle, finishBroadcast_spent hb h0, finishBroadcast_of_not_spent hdone]

theorem settle_startsRound (h : s.StartsRound) : settle s = finishBroadcast (startRound s) := by
  simp [settle, finishBroadcast_of_not_spent h.noBroadcast, h.due]

theorem roundDue_startRound (s : State) : (startRound s).roundDue = false := roundDue_beginRound _

theorem settle_of_not_due (h : s.roundDue = false) : settle s = finishBroadcast s := by
  have hdone : (finishBroadcast s).roundDue = false := (calm_finishBroadcast s).sameCore.roundDue.trans h
  simp [settle, hdone]

/-- The round start that is due has its whole effect. -/
theorem exec_roundStart (h : s.StartsRound) : exec .roundStart s = .next (startRound s) := by
  rw [show exec .roundStart s = onRoundStart startDueRound s from rfl, onRoundStart_of_not_spent _ h.running h.noBroadcast, startDueRound,
    if_pos h.due]

/-! ### Start-up -/

/-- What start-up leaves of the part after a reset. -/
structure StartedUp (straps : Straps) (i : Settings) (l : LiveSettings) (u : Unapplied) (st : Store) (cause : ReadyCause) (q : Bool)
    (t : State) : Prop where
  running : t.inReset = false
  straps : t.control.straps = straps
  store : t.store = st
  image : t.image = i
  live : t.live = l
  unapplied : t.unapplied = u
  fresh : t.Fresh
  line : t.control.line = some (.notice (.ready cause st.source))
  notices : t.control.notices = if q then [.quietBegin true false] else []
  quiet : t.quiet = startUpQuiet q
  engine : t.engine.state = startUpEngine i
  resume : t.engine.resumePending = decide (startUpEngine i ≠ .stopped)

variable (straps : Straps) (i : Settings) (l : LiveSettings) (u : Unapplied) (st : Store) (cause : ReadyCause) (q : Bool) (s : State)

theorem startQuiet_ready : ∃ k, startQuiet q (notify (.ready cause st.source) (s.afterReset straps i l u st)) =
    { s.afterReset straps i l u st with control := k, quiet := startUpQuiet q } ∧
      k = { straps := straps, receiver := .hunting, buffer := [], busy := [], replies := [], notices := if q then [.quietBegin true false] else []
            line := some (.notice (.ready cause st.source)), badFrames := 0, noticesLost := 0, restarting := false } := by
  cases q <;> exact ⟨_, rfl, rfl⟩

/-- Start-up after a reset: READY first of all notices, then SILENT, then START (R177, R178). -/
theorem startedUp : StartedUp straps i l u st cause q (startUp cause q (s.afterReset straps i l u st)) := by
  obtain ⟨k, hquiet, hk⟩ := startQuiet_ready straps i l u st cause q s
  have hfresh : ∀ e : Engine, e.round = 0 → e.inProgress = false → e.plan = Plan.empty → e.prev = Plan.empty → e.older = Plan.empty →
      e.radio = none → State.Fresh { s.afterReset straps i l u st with control := k, quiet := startUpQuiet q, engine := e } := by
    intro e hround hprogress hplan hprev holder hradio
    subst hk
    exact {
      entries := entry_afterReset straps i l u st s
      order := rfl, answers := rfl, bars := rfl, grace := rfl, commands := rfl, broadcasts := ⟨rfl, rfl⟩
      queues := fun x => by simp [State.rx, State.afterReset]
      ports := ⟨rfl, rfl⟩, counters := rfl
      round := ⟨hround, hprogress, hplan, hprev, holder, hradio⟩
      control := ⟨rfl, rfl, rfl, rfl, rfl, rfl, rfl⟩ }
  have hsource : startUp cause q (s.afterReset straps i l u st) =
      autostart { s.afterReset straps i l u st with control := k, quiet := startUpQuiet q } := congrArg autostart hquiet
  by_cases hstart : i.node.autostart = true ∧ i.node.node ≠ 0
  · have hengine : startUpEngine i ≠ .stopped := by
      rw [startUpEngine, if_pos hstart]
      cases i.round.mode <;> simp
    rw [hsource.trans (if_pos hstart)]
    exact {
      running := rfl, straps := by rw [hk]; rfl, store := rfl, image := rfl, live := rfl, unapplied := rfl
      fresh := hfresh _ rfl rfl rfl rfl rfl rfl
      line := by rw [hk]; rfl
      notices := by rw [hk]; rfl
      quiet := rfl
      engine := by rw [startUpEngine, if_pos hstart]; rfl
      resume := (decide_eq_true hengine).symm }
  · have hengine : startUpEngine i = .stopped := by rw [startUpEngine, if_neg hstart]
    rw [hsource.trans (if_neg hstart)]
    exact {
      running := rfl, straps := by rw [hk], store := rfl, image := rfl, live := rfl, unapplied := rfl
      fresh := hfresh _ rfl rfl rfl rfl rfl rfl
      line := by rw [hk]
      notices := by rw [hk]
      quiet := rfl
      engine := hengine.symm
      resume := by rw [hengine]; rfl }

end

/-! ### The obligations -/

/-- Settles O1: every command is an event, a row of a round start, or one of the two of the reset, and none reaches the queue. -/
theorem stepRunsFrontCommand : Obligations.StepRunsFrontCommand := by
  refine ⟨fun c s => rfl, fun a s hp => ?_, fun s hp ha => by simp [step, hp, ha], fun c s => ?_⟩
  · obtain ⟨⟩ := s
    simp only at hp
    subst hp
    rfl
  · obtain ⟨t, ht⟩ := exec_next c s
    exact ⟨t, ht, (reachesIn_exec c s t ht).path.queue⟩

/-- Settles O2: settling takes the spent broadcast and the round start, and the command finds them done. -/
theorem dueWorkComesFirst : Obligations.DueWorkComesFirst := by
  intro c s hc hs
  have hspent : ∀ t : State, t.inReset = false → ∀ b bs, t.broadcasts = b :: bs → b.repeats = 0 → (∀ x xs, bs = x :: xs → x.repeats ≠ 0) →
      exec c t = exec c (notify (.broadcastDone b.id) { t with broadcasts := bs }) :=
    fun t ht b bs hb h0 hnext => exec_of_settle hc ht ht (settle_spent hb h0 hnext)
  refine ⟨hspent s hs, fun hstart => ?_⟩
  have hreset : (startRound s).inReset = false := (inReset_startRound s).trans hs
  have hstarted : exec c s = exec c (startRound s) := exec_of_settle hc hs hreset
    ((settle_startsRound hstart).trans (settle_of_not_due (roundDue_startRound s)).symm)
  exact ⟨startRound s, exec_roundStart hstart, roundDue_startRound s, fun _ => hstarted,
    fun b bs hb h0 hnext => hstarted.trans (hspent _ hreset b bs hb h0 hnext)⟩

/-- Settles O3: every block of the reset state is at its first value. -/
theorem resetStateIsSafe : Obligations.ResetStateIsSafe := by
  have hentry : ∀ i : Index, State.reset.entry i = Entry.vacant := fun i => by simp [State.entry, State.reset]
  have hrx : ∀ q : Fin 4, State.reset.rx q = RxQueue.empty := fun q => by simp [State.rx, State.reset]
  exact {
    roster := {
      order := ⟨.nil, fun i => by rw [hentry]; exact ⟨nofun, nofun⟩⟩
      cars := ⟨fun i hi => absurd (by rw [hentry]; rfl) hi, fun i _ hi => absurd (by rw [hentry]; rfl) hi⟩
      plan := nofun
      prev := nofun
      older := nofun
      vacant := fun i _ => hentry i
      handover := fun i => by rw [hentry]; exact ⟨rfl, rfl, rfl⟩
      peers := fun i n hn => by rw [hentry] at hn; cases hn
      candidates := fun _ _ i => by rw [hentry]; exact ⟨rfl, rfl, rfl⟩ }
    fits := by unfold State.AirtimeFits; decide
    quiet := ⟨rfl, nofun, fun _ => rfl, fun _ => rfl, nofun, fun _ => rfl, nofun⟩
    control := ⟨Nat.zero_le _, Nat.zero_le _, Nat.zero_le _, Nat.zero_le _, Nat.zero_le _, nofun, .nil, rfl, rfl⟩
    records := ⟨fun q => by rw [hrx]; exact within_empty _, by decide⟩
    pool := {
      pool := by simp [State.poolCount, hentry, Entry.vacant, poolCapacity]
      lists := fun i => by rw [hentry]; exact Nat.zero_le _
      head := fun i k hk => by rw [hentry] at hk; cases hk
      states := fun i hi => absurd (by rw [hentry]; rfl) hi }
    numbers := {
      next := by decide
      numbers := fun i k hk => by rw [hentry] at hk; cases hk
      unique := by simp only [hentry]; exact List.nodup_flatMap.mpr ⟨fun _ _ => .nil, List.pairwise_of_forall fun _ _ _ h => nomatch h⟩
      nextId := by decide
      ids := nofun
      uniqueIds := .nil
      queue := Nat.zero_le _
      outstanding := fun i k hk => by rw [hentry] at hk; cases hk
      carried := fun ago p hp i k hk => by rw [hentry] at hk; cases hk }
    ports := ⟨port_held_afterReset, port_held_afterReset⟩
    lists := ⟨Nat.zero_le _, .nil, Nat.zero_le _, .nil, nofun, Nat.zero_le _, by decide⟩ }

/-- Start-up after a full reset, on the image that was loaded or on the factory defaults. -/
theorem startedUp_resetWith (straps : Straps) (loaded : Option Settings) (cause : ReadyCause) (q : Bool) (s : State) :
    StartedUp straps (loaded.getD Settings.default) (loaded.getD Settings.default).liveGroups Unapplied.none
      { page := s.store.page, state := if loaded.isSome then .valid else .invalid, job := none
        source := if loaded.isSome then .loaded else .defaults } cause q (startUp cause q (resetWith straps loaded s)) := by
  cases loaded <;> exact startedUp _ _ _ _ _ _ _ _

/-- Settles O18: a full reset is start-up on the image of the page, or on the factory defaults. -/
theorem fullResetStartsUp : Obligations.FullResetStartsUp := by
  intro cause straps q s
  have h := startedUp_resetWith straps (loadPage s.store.page) (readyCauseOf cause) q s
  exact ⟨_, rfl, h.running, h.straps, by rw [h.store], by rw [h.store], h.image, by rw [h.store],
    by rw [h.store], h.live.trans (by rw [h.image]), h.unapplied, h.fresh, h.line.trans (by rw [h.store]), h.notices, h.quiet,
    h.engine.trans (by rw [h.image]), h.resume.trans (by rw [h.image])⟩

/-- Settles O20: in reset an event and a row of a round start do nothing. -/
theorem resetHoldsPart : Obligations.ResetHoldsPart := by
  refine ⟨fun s => ⟨enterReset s, rfl, rfl, rfl, rfl, rfl, rfl, rfl, rfl, rfl, rfl, rfl, rfl, rfl, rfl, rfl, rfl, ?_, rfl⟩,
    fun c s hs hreset hfull => exec_inReset hs hreset hfull⟩
  simp only [enterReset]
  split
  · nofun
  · assumption

end Sys2Proof.Proofs
end

section
/-!
PROOFS. The control link (10): how frames are received, taken, answered and sent, and the restart.
-/
namespace Sys2Proof.Proofs
open Sys2Proof.Machine

section
variable {s : State} {k : ControlLink} {r : Request}

/-! ### Receiving -/

theorem begun_eq_true (h : k.receiver ≠ .hunting ∨ (k.busy.length < 8 ∧ k.restarting = false)) : k.begun = true := by
  rcases h with h | ⟨hbusy, hrestart⟩
  · simp [ControlLink.begun, h]
  · simp [ControlLink.begun, ControlLink.mayStart, busyCapacity, hbusy, hrestart]

theorem begun_eq_false (h : k.receiver = .hunting) (h' : 8 ≤ k.busy.length ∨ k.restarting = true) : k.begun = false := by
  have hstart : k.mayStart = false := by
    rcases h' with hbusy | hrestart
    · simp [ControlLink.mayStart, busyCapacity, Nat.not_lt.mpr hbusy]
    · simp [ControlLink.mayStart, hrestart]
  simp [ControlLink.begun, hstart, h]

/-- A frame begun joins the buffer that has room for it. -/
theorem arrive_room (h : k.begun = true) (hrestart : k.restarting = false) (hroom : k.buffer.length < 4) :
    k.arrive r = { k with receiver := .hunting, buffer := k.buffer ++ [{ request := r, taken := false }] } := by
  simp [ControlLink.arrive, h, hrestart, bufferCapacity, Nat.not_le.mpr hroom]

/-- A frame begun is refused BUSY when it may not join the buffer. -/
theorem arrive_busy (h : k.begun = true) (hfull : k.restarting = true ∨ 4 ≤ k.buffer.length) (hroom : k.busy.length < 8) :
    k.arrive r = refuseBusy r { k with receiver := .hunting } := by
  simp [ControlLink.arrive, h, bufferCapacity, busyCapacity, Nat.not_le.mpr hroom, hfull]

theorem arrive_lost (h : k.begun = false) (hr : k.receiver = .hunting) : k.arrive r = k := by
  simp [ControlLink.arrive, h, ← hr]

theorem badFrame_begun (h : k.begun = true) :
    k.badFrame = { k with receiver := .hunting, badFrames := min (k.badFrames + 1) 65535 } := by
  simp [ControlLink.badFrame, h, count16, saturate]

theorem badFrame_lost (h : k.begun = false) (hr : k.receiver = .hunting) : k.badFrame = k := by
  simp [ControlLink.badFrame, h, ← hr]

theorem receiveRequest_fits (h : r.body.length ≤ 298) : receiveRequest r s = { s with control := s.control.arrive r } := by
  simp [receiveRequest, maxBody, Nat.not_lt.mpr h]

theorem receiveRequest_long (h : 298 < r.body.length) : receiveRequest r s = { s with control := s.control.badFrame } := by
  simp [receiveRequest, maxBody, h]

/-! ### Waiting and taken -/

/-- A frame that joins a buffer with none waiting is the one that waits. -/
theorem waiting_append (h : k.waiting = none) {u : Receiver} :
    ControlLink.waiting { k with receiver := u, buffer := k.buffer ++ [{ request := r, taken := false }] } = some r := by
  simp only [ControlLink.waiting, Option.map_eq_none_iff] at h
  simp [ControlLink.waiting, List.find?_append, h]

theorem serve_waiting {d : State → Decision} (h : s.control.waiting = some r) : serve r d s = takeRequest r d s := by
  simp [serve, h]

theorem quiescent_control (h : s.Quiescent) (k : ControlLink) : State.Quiescent { s with control := k } :=
  ⟨h.running, h.noRound, h.noBroadcast⟩

/-! ### Sending -/

/-- What a resting transmitter takes: the next reply, else the next notice, else nothing (R167). -/
structure TakesNext (k k' : ControlLink) : Prop where
  buffer : k'.buffer = k.buffer
  busy : k'.busy = k.busy
  reply : ∀ r rs, k.replies = r :: rs → k'.line = some (.reply r) ∧ k'.replies = rs ∧ k'.notices = k.notices
  notice : k.replies = [] → k.restarting = false → ∀ n ns, k.notices = n :: ns → k'.line = some (.notice n) ∧ k'.noticesLost = 0 ∧
    k'.notices = ns ++ if 0 < k.noticesLost then [.noticesLost k.noticesLost] else []
  rest : k.replies = [] → k.notices = [] ∨ k.restarting = true → k'.line = none

theorem takesNext_kick (h : k.line = none) : TakesNext k k.kick := by
  obtain ⟨-, hbuffer, hbusy, -, -, -⟩ := kick_frame k
  refine ⟨hbuffer, hbusy, fun r rs hr => ?_, fun hr hrestart n ns hn => ?_, fun hr hrest => ?_⟩
  · rw [kick_reply h hr]
    exact ⟨rfl, rfl, rfl⟩
  · by_cases hlost : 0 < k.noticesLost
    · rw [kick_noticesLost h hr hn hrestart hlost, if_pos hlost]
      exact ⟨rfl, rfl, rfl⟩
    · rw [kick_notice h hr hn hrestart (Nat.eq_zero_of_not_pos hlost), if_neg hlost, List.append_nil]
      exact ⟨rfl, Nat.eq_zero_of_not_pos hlost, rfl⟩
  · rcases hrest with hn | hrestart
    · rw [kick_rest hr hn, h]
    · cases hn : k.notices <;> simp [ControlLink.kick, h, hr, hn, hrestart]

/-! ### Answering -/

theorem outstanding_answer (k : ControlLink) (x : Reply) : (k.answer x).outstanding = k.outstanding ++ [x] := outstanding_reply _ x

/-- What answering a request touches besides the replies. -/
theorem answer_frame (k : ControlLink) (x : Reply) : (k.answer x).buffer = markTaken k.buffer ∧ (k.answer x).busy = k.busy ∧
    (k.answer x).notices = k.notices ∧ (k.answer x).restarting = k.restarting ∧ (k.answer x).receiver = k.receiver :=
  reply_frame { k with buffer := markTaken k.buffer } x

/-- What taking a RESTART does: no request is left waiting, and each that waited is answered BUSY. -/
theorem beginRestart_spec (k : ControlLink) :
    k.beginRestart.outstanding = k.outstanding ++ (k.buffer.filter fun b => !b.taken).map (fun b => busyReply b.request) ∧
    k.beginRestart.buffer = k.buffer.map (fun b => { b with taken := true }) ∧ k.beginRestart.busy = k.busy ∧
    k.beginRestart.notices = k.notices ∧ k.beginRestart.restarting = true ∧ k.beginRestart.receiver = k.receiver :=
  replies_spec _ _

end

/-! ### The obligations -/

/-- Settles O19: a RESTART answers what waits and, once the line is idle, is start-up on what is kept. -/
theorem restartRuns : Obligations.RestartRuns := by
  refine ⟨fun tag s hs => ⟨fun hsaving => onRequest_refuse hs (if_pos hsaving), fun hsaving => ?_⟩, fun q s hs hready => ?_, fun q s hs hready => ?_⟩
  · have hexec : exec (.restart tag) s = .next { s.answered (.restart tag) .ok [] with
        control := (s.answered (.restart tag) .ok []).control.beginRestart } :=
      onRequest_accept (d := decideRestart) (f := fun t => { t with control := t.control.beginRestart }) hs (if_neg hsaving)
    obtain ⟨hout, hbuffer, hbusy, hnotices, hrestart, hreceiver⟩ := beginRestart_spec (s.answered (.restart tag) .ok []).control
    obtain ⟨habuffer, habusy, hanotices, harestart, hareceiver⟩ := answer_frame s.control (replyTo (.restart tag) .ok [])
    refine ⟨_, hexec, rfl, hrestart, hreceiver.trans hareceiver, fun b hb => ?_, ?_, hnotices.trans hanotices, hbusy.trans habusy, ?_⟩
    · obtain ⟨c, -, rfl⟩ := List.mem_map.mp (hbuffer ▸ hb)
      rfl
    · have hrequests := markTaken_requests s.control.buffer
      rw [hbuffer]
      simp only [State.answered, habuffer, List.map_map]
      exact hrequests
    · rw [hout]
      simp only [State.answered, habuffer, outstanding_answer, List.append_assoc]
      rfl
  · have h := startedUp s.control.straps s.image s.live s.unapplied s.store .restart q s
    have hexec : exec (.restartTakesEffect q) s = .next (restartEffect q s) := onEvent_of_quiescent _ hs
    rw [restartEffect, if_pos hready] at hexec
    exact ⟨_, hexec, h.running, h.straps, h.store, h.image, h.live, h.unapplied, h.fresh, h.line, h.notices, h.quiet, h.engine, h.resume⟩
  · have hexec : exec (.restartTakesEffect q) s = .next (restartEffect q s) := onEvent_of_quiescent _ hs
    rwa [restartEffect, if_neg (by simp [hready])] at hexec

/-- Settles O21: a frame is sorted by whether the receiver began it, its length, and the room for it. -/
theorem receivedFramesSorted : Obligations.ReceivedFramesSorted := by
  intro kind tag body s hs
  have hreceive : exec (.requestReceived kind tag body) s = .next (receiveRequest { kind := kind, tag := tag, body := body } s) :=
    onEvent_of_quiescent _ hs
  have hbad : exec .controlBadFrame s = .next (controlBad s) := onEvent_of_quiescent _ hs
  have hgap : exec .controlGapTimeout s = .next (controlBad s) := onEvent_of_quiescent _ hs
  refine ⟨fun hbegun => ?_, fun hhunting hfull => ?_⟩
  · have hbegun := begun_eq_true hbegun
    refine ⟨fun hfits hrestart hroom => ?_, fun hfits hfull hroom => ?_, fun hlong => ?_, ?_, ?_⟩
    · rw [hreceive, receiveRequest_fits hfits, arrive_room hbegun hrestart hroom]
    · rw [hreceive, receiveRequest_fits hfits, arrive_busy hbegun hfull hroom]
      have hout := outstanding_reply { s.control with receiver := .hunting, busy := s.control.busy ++ [{ kind := kind, tag := tag }] }
        { kind := replyKind kind, tag := tag, status := .busy, body := [], busy := true }
      obtain ⟨hbuffer, hbusy, hnotices, hrestart, hreceiver⟩ := reply_frame
        { s.control with receiver := .hunting, busy := s.control.busy ++ [{ kind := kind, tag := tag }] }
        { kind := replyKind kind, tag := tag, status := .busy, body := [], busy := true }
      exact ⟨_, rfl, rfl, hreceiver, hrestart, badFrames_reply _ _, hbuffer, hnotices, hbusy, hout⟩
    · rw [hreceive, receiveRequest_long hlong, badFrame_begun hbegun]
    · rw [hbad, controlBad, badFrame_begun hbegun]
    · rw [hgap, controlBad, badFrame_begun hbegun]
  · have hlost := begun_eq_false hhunting hfull
    have hreceived : receiveRequest { kind := kind, tag := tag, body := body } s = s := by
      unfold receiveRequest
      split
      · rw [badFrame_lost hlost hhunting]
      · rw [arrive_lost hlost hhunting]
    have hnone : controlBad s = s := by rw [controlBad, badFrame_lost hlost hhunting]
    intro c hc
    rcases List.mem_cons.mp hc with rfl | hc
    · rw [hreceive, hreceived]
    · rcases List.mem_cons.mp hc with rfl | hc
      · rw [hbad, hnone]
      · rw [List.mem_singleton.mp hc, hgap, hnone]

/-- Settles O22: a frame that waits is taken, and one that arrives with none waiting is taken at once. -/
theorem requestsArriveAndAnswer : Obligations.RequestsArriveAndAnswer := by
  refine ⟨fun kind tag body s hs hbad hwaits => ?_, fun c s hs hrequest hsound hrestart hbusy hroom hnone => ?_⟩
  · have hexec : exec (.badRequest kind tag body) s = .next (serveBadRequest { kind := kind, tag := tag, body := body } s) :=
      onEvent_of_quiescent _ hs
    rw [hexec, serveBadRequest, if_pos hbad, serve_waiting hwaits, takeRequest, if_pos hbad]
    rfl
  · obtain ⟨d, hd⟩ := exec_request hrequest
    have hbody : (rowRequest c).body.length ≤ 298 := by
      obtain ⟨r, hr⟩ := Option.isSome_iff_exists.mp hrequest
      simp only [soundRequest, hr, Bool.and_eq_true, decide_eq_true_eq] at hsound
      obtain ⟨⟨-, hlength⟩, -⟩ := hsound
      rw [rowRequest, hr]
      exact hlength
    have harrived : receiveRequest (rowRequest c) s = { s with control := { s.control with
        receiver := .hunting, buffer := s.control.buffer ++ [{ request := rowRequest c, taken := false }] } } := by
      rw [receiveRequest_fits hbody, arrive_room (begun_eq_true (.inr ⟨hbusy, hrestart⟩)) hrestart hroom]
    have hwaits := waiting_append (r := rowRequest c) (u := .hunting) hnone
    have hserve : ∀ u, receiveRequest (rowRequest c) s = u → u.control.waiting = some (rowRequest c) →
        serve (rowRequest c) d s = serve (rowRequest c) d u := by
      intro u hu hw
      rw [serve_waiting hw]
      simp [serve, hnone, hu, hw]
    rw [hd, hd, onRequest, onRequest, onEvent_of_quiescent _ hs, onEvent_of_quiescent _ (quiescent_control hs _)]
    exact congrArg Host.Outcome.next (hserve _ harrived hwaits)

/-- Settles O24: the place is freed, and the transmitter takes what stands first. -/
theorem frameSentTakesNext : Obligations.FrameSentTakesNext := by
  intro f s hs hline
  have hsent : ∀ k, TakesNext k s.control.frameSent → k.replies = s.control.replies → k.notices = s.control.notices →
      k.noticesLost = s.control.noticesLost → k.restarting = s.control.restarting →
      (∀ r rs, s.control.replies = r :: rs → s.control.frameSent.line = some (.reply r) ∧ s.control.frameSent.replies = rs ∧
        s.control.frameSent.notices = s.control.notices) ∧
      (s.control.replies = [] → s.control.restarting = false → ∀ n ns, s.control.notices = n :: ns →
        s.control.frameSent.line = some (.notice n) ∧ s.control.frameSent.noticesLost = 0 ∧
        s.control.frameSent.notices = ns ++ (if 0 < s.control.noticesLost then [.noticesLost s.control.noticesLost] else [])) ∧
      (s.control.replies = [] → s.control.notices = [] ∨ s.control.restarting = true → s.control.frameSent.line = none) := by
    intro k h hreplies hnotices hlost hrestart
    rw [← hreplies, ← hnotices, ← hlost, ← hrestart]
    exact ⟨h.reply, h.notice, h.rest⟩
  refine ⟨_, onEvent_of_quiescent (fun t => { t with control := t.control.frameSent }) hs, rfl, ?_⟩
  cases f with
  | notice n =>
    have h : TakesNext { s.control with line := none } s.control.frameSent := by
      simp only [ControlLink.frameSent, hline]
      exact takesNext_kick rfl
    exact ⟨h.buffer, h.busy, hsent _ h rfl rfl rfl rfl⟩
  | reply r =>
    cases hbusy : r.busy with
    | true =>
      have h : TakesNext { s.control with line := none, busy := s.control.busy.tail } s.control.frameSent := by
        simp only [ControlLink.frameSent, hline, hbusy, if_true]
        exact takesNext_kick rfl
      exact ⟨by simpa [hbusy] using h.buffer, by simpa [hbusy] using h.busy, hsent _ h rfl rfl rfl rfl⟩
    | false =>
      have h : TakesNext { s.control with line := none, buffer := s.control.buffer.tail } s.control.frameSent := by
        simp only [ControlLink.frameSent, hline, hbusy]
        exact takesNext_kick rfl
      exact ⟨by simpa [hbusy] using h.buffer, by simpa [hbusy] using h.busy, hsent _ h rfl rfl rfl rfl⟩

end Sys2Proof.Proofs
end

section
/-!
PROOFS. The requests that only read, and the settings' GET and SAVE (10.4, 2.9, 9.2, 11.2, 11.3).
-/
namespace Sys2Proof.Proofs
open Sys2Proof.Machine

section
variable {s : State}

/-! ### What a reply carries -/

theorem length_rosterWindow {first : Nat} : (rosterWindow first).length = min 8 (24 - first) := by
  simp [rosterWindow, indices]

/-- The queues of a state, by their numbers. -/
theorem queues_toList (s : State) : s.queues.toList = (List.finRange 4).map s.rx := by
  apply List.ext_getElem (by simp)
  intro n h₁ h₂
  simp [State.rx]

theorem statusBytes_queues (s : State) : s.queues.toList.flatMap RxQueue.statusBytes =
    (List.finRange 4).flatMap fun q => [byteOf (s.rx q).records.length, byteOf (s.rx q).lost] := by
  rw [queues_toList, List.flatMap_map]
  rfl

theorem index_byteOf {i : Index} (h : (byteOf i.val).toNat < 24) : (⟨(byteOf i.val).toNat, h⟩ : Index) = i :=
  Fin.ext (toNat_byteOf_index i)

theorem rosterBytes_slotted {i : Index} {e : Entry} (h : e.state.slotted = true) : e.rosterBytes i =
    [byteOf i.val, byteOf e.state.code] ++ carBytes e.car ++ roundBytes e.lastHeard
      ++ [byteOf e.granted.toNat, byteOf e.rate.code, byteOf e.wantedRate.code, flagByte e.rateHeld, byteOf e.score,
          byteOf e.missed, flagByte e.survey]
      ++ e.peer.toList ++ (e.phaseTimer.map byteOf).toList ++ [byteOf e.commands.length] := by
  unfold Entry.rosterBytes
  split
  · next hs => rw [hs] at h; cases h
  · next hs => rw [hs] at h; cases h
  · rfl

end

/-! ### The obligations -/

/-- Settles O23: each of the four is answered with what it reads. -/
theorem readingRequestsOnlyReply : Obligations.ReadingRequestsOnlyReply := by
  refine ⟨fun tag s hs => onRequest_answer hs rfl, fun tag s hs => onRequest_answer hs rfl, fun tag first s hs hfirst => ?_,
    fun tag first s hs => onRequest_answer hs rfl, fun tag part first s hs hout => ?_, fun tag index s hs => onRequest_answer hs rfl,
    fun tag i s hs => ?_, fun tag scope index s hs hout => ?_, fun s => ?_, fun s => rfl, fun s => ?_, fun i e => ?_, fun i e => rfl⟩
  · refine onRequest_answer hs ?_
    rw [← length_rosterWindow]
    exact (if_pos rfl).trans (if_pos hfirst)
  · refine onRequest_refuse hs ?_
    unfold decideRoster
    rcases hout with hpart | ⟨rfl, hfirst⟩
    · rw [if_neg (by rintro rfl; simp at hpart), if_neg (by rintro rfl; simp at hpart)]
    · rw [if_pos rfl, if_neg (by omega)]
  · have hi : (byteOf i.val).toNat < 24 := (toNat_byteOf_index i).trans_lt i.isLt
    refine onRequest_answer hs ?_
    refine (if_neg (by decide)).trans ((if_pos rfl).trans ((dif_pos hi).trans ?_))
    rw [index_byteOf hi]
  · refine onRequest_refuse hs ?_
    unfold decideCounts
    rcases hout with hscope | ⟨rfl, hindex⟩
    · rw [if_neg (by rintro rfl; simp at hscope), if_neg (by rintro rfl; simp at hscope)]
    · rw [if_neg (by decide), if_pos rfl, dif_neg (by omega)]
  · rw [State.statusBytes, statusBytes_queues]
    rfl
  · simp only [State.listsBytes, counted, List.length_map, List.append_assoc, List.cons_append, List.nil_append]
    rfl
  · refine ⟨fun h => ?_, fun h => ?_, fun h => rosterBytes_slotted h⟩
    · simp [Entry.rosterBytes, h, EntryState.code, byteOf]
    · simp [Entry.rosterBytes, h]

/-- Settles O27: GET answers from the image, and says of a live group whether it is pending. -/
theorem getReturnsImage : Obligations.GetReturnsImage := by
  refine fun tag group s hs => ⟨fun g hg => ?_, fun hg => ?_⟩
  · refine onRequest_answer (d := decideGet group) hs ?_
    rw [decideGet, hg]
    cases g <;> rfl
  · refine onRequest_answer (d := decideGet group) hs ?_
    rw [decideGet, hg]
    rfl

/-- Settles O28: a SAVE goes on by what its job says and by what was read back. -/
theorem saveRunsItsSteps : Obligations.SaveRunsItsSteps := by
  refine ⟨fun tag s hs => ⟨fun hsaving => onRequest_refuse hs (if_pos hsaving),
    fun hsaving => onRequest_accept (d := decideSave) (f := beginSave) hs (if_neg hsaving)⟩, fun j s hs hjob herasing => ?_, fun j b s hs hjob herasing => ?_⟩
  · have hexec : exec .saveEraseDone s = .next (eraseDone s) := onEvent_of_quiescent _ hs
    simp [hexec, eraseDone, hjob, herasing]
  · have hexec : exec (.saveByteProgrammed b) s = .next (programmed b s) := onEvent_of_quiescent _ hs
    refine ⟨fun hread hmore => ?_, fun hread hlast => ?_, fun hread hfew => ?_, fun hread hmany => ?_⟩
    · simp [hexec, programmed, hjob, herasing, hread, hmore]
    · simp [hexec, programmed, hjob, herasing, hread, Nat.not_lt.mpr hlast]
    · have hagain : j.failed + 1 < programLimit := Nat.succ_lt_succ hfew
      simp [hexec, programmed, hjob, herasing, hread, hagain]
    · have hend : ¬ j.failed + 1 < programLimit := Nat.not_lt.mpr (Nat.succ_le_succ hmany)
      simp [hexec, programmed, hjob, herasing, hread, hend]

end Sys2Proof.Proofs
end

section
/-!
PROOFS. The round engine's requests, the end of a round, a slot, the proposal of a class, and the pattern of bands (1, 3.3, 5.2, 9.4).
-/
namespace Sys2Proof.Proofs
open Sys2Proof.Machine

section
variable {s : State}

/-! ### A slot -/

theorem exec_slotStart {n : Fin 24} {p : Position} (h : s.SlotDue n p) : exec (.slotStart n) s = .next
    (if p.stale then s.withPlan (s.engine.plan.updateAt n.val fun q => { q with started := true })
    else
      let g := chooseSegment s.image.round.pd s.live.pattern (s.entry p.index)
      { s.setEntry p.index g.entry with engine := { s.engine with
          plan := s.engine.plan.updateAt n.val fun q => { q with started := true, sent := g.sent }, radio := some (g.burst p) } }) := by
  have hexec : exec (.slotStart n) s = .next (beginSlot n.val s) := onEvent_of_quiescent _ h.quiescent
  have hbegins : ¬ (s.engine.inProgress = false ∨ p.started = true ∨ p.closed = true) := by simp [h.inProgress, h.fresh]
  rw [hexec, beginSlot, h.position]
  simp only [if_neg hbegins]
  rfl

/-- A slot that is not stale carries the segment chosen for its entry. -/
theorem exec_slotStart_live {n : Fin 24} {p : Position} {g : Segment} (h : s.SlotDue n p) (hlive : p.stale = false)
    (hg : chooseSegment s.image.round.pd s.live.pattern (s.entry p.index) = g) : exec (.slotStart n) s = .next
      { s.setEntry p.index g.entry with engine := { s.engine with
          plan := s.engine.plan.updateAt n.val fun q => { q with started := true, sent := g.sent }, radio := some (g.burst p) } } := by
  subst hg
  rw [exec_slotStart h, if_neg (by simp [hlive])]

section
variable {pd : Code} {g : PatternGroup} {e : Entry} {k : Command} {ks : List Command}

theorem chooseSegment_moving {t : MoveTarget} (h : e.state = .moving) (ht : e.target = some t) : chooseSegment pd g e =
    { kind := 62, payload := [nodeByte e.peer, t.channel, t.index, byteOf t.cls.code], seq := 0, rep := false, sent := .nothing, entry := e } := by
  simp [chooseSegment, h, Entry.movePayload, ht]

theorem chooseSegment_survey (h : e.state ≠ .moving) (hs : e.survey = true) : chooseSegment pd g e =
    { kind := 63, payload := g.make (patternLength pd e.granted), seq := 0, rep := false
      sent := .pattern (g.make (patternLength pd e.granted)), entry := e } := by
  simp [chooseSegment, h, hs]

theorem chooseSegment_idle (h : e.state ≠ .moving) (hs : e.survey = false) (hk : e.commands = []) : chooseSegment pd g e = Segment.idle e := by
  simp [chooseSegment, h, hs, hk]

theorem chooseSegment_again {q : Seq} (h : e.state ≠ .moving) (hs : e.survey = false) (hk : e.commands = k :: ks) (hq : k.seqUsed = some q) :
    chooseSegment pd g e =
      { kind := k.kind.toNat, payload := k.payload, seq := q, rep := true, sent := .command k.number, entry := e } := by
  simp [chooseSegment, h, hs, hk, hq]

theorem chooseSegment_anew (h : e.state ≠ .moving) (hs : e.survey = false) (hk : e.commands = k :: ks) (hq : k.seqUsed = none)
    (hp : e.pace = 0) : chooseSegment pd g e =
      { kind := k.kind.toNat, payload := k.payload, seq := e.nextSeq, rep := false, sent := .command k.number
        entry := { e with nextSeq := e.nextSeq + 1, commands := { k with seqUsed := some e.nextSeq, sent := true } :: ks } } := by
  simp [chooseSegment, h, hs, hk, hq, hp]

theorem chooseSegment_paced (h : e.state ≠ .moving) (hs : e.survey = false) (hk : e.commands = k :: ks) (hq : k.seqUsed = none)
    (hp : e.pace ≠ 0) : chooseSegment pd g e = Segment.idle e := by
  simp [chooseSegment, h, hs, hk, hq, hp]

end

/-- A segment is on the air as the radio sends it. -/
theorem burst_eq (g : Segment) (p : Position) : g.burst p = segmentOnAir p g.kind g.payload g.seq g.rep g.entry.lastSeq := by
  simp [Segment.burst, segmentOnAir, burstAirtime, Nat.add_comm]

/-! ### The bands of a pattern -/

theorem length_fillBands {b n : Nat} {vs : List Byte} (h : vs ≠ []) : (fillBands b vs n).length = n := by
  induction vs generalizing n with
  | nil => exact absurd rfl h
  | cons v vs ih =>
    cases vs with
    | nil => simp [fillBands]
    | cons w ws => simp [fillBands, ih]; omega

/-- Byte i lies in band i / b, and past the last band in the last one. -/
theorem getElem?_fillBands {b n i : Nat} {vs : List Byte} (h : vs ≠ []) (hb : 1 ≤ b) (hi : i < n) :
    (fillBands b vs n)[i]? = vs[min (i / b) (vs.length - 1)]? := by
  induction vs generalizing n i with
  | nil => exact absurd rfl h
  | cons v vs ih =>
    cases vs with
    | nil => simp [fillBands, hi]
    | cons w ws =>
      rw [fillBands]
      · by_cases hib : i < b
        · rw [List.getElem?_append_left (by simp; omega)]
          simp [Nat.div_eq_of_lt hib, hi, hib]
        · have hdiv : i / b = (i - b) / b + 1 := Nat.div_eq_sub_div hb (Nat.not_lt.mp hib)
          have hband : min b n = b := by omega
          rw [List.getElem?_append_right (by simpa [hband] using Nat.not_lt.mp hib), List.length_replicate, hband,
            ih (by simp) (by omega), hdiv]
          simp only [List.length_cons, Nat.add_sub_cancel]
          rw [Nat.add_min_add_right, List.getElem?_cons_succ]
      · simp

end

/-! ### The obligations -/

/-- Settles O29: START, STOP and STEP by the engine's state, and STOP and STEP also by the quiet state. -/
theorem engineRequestsDecided : Obligations.EngineRequestsDecided := by
  refine fun tag s => ⟨fun hs => ⟨fun hstate hnode => ?_, fun hstate hnode => ?_, fun hstate => ?_, fun hstate => ?_⟩, fun hs => ?_,
    fun hs => ⟨fun hstate hquiet => ?_, fun hstate hquiet => ?_, fun hstate => ?_, fun hstate => ?_⟩⟩
  · exact onRequest_refuse (d := decideStart) hs (by simp [decideStart, hstate, hnode])
  · refine (onRequest_accept (d := decideStart) (f := startEngine) hs (by rw [decideStart, hstate]; exact if_neg hnode)).trans ?_
    cases hmode : s.image.round.mode <;> simp [startEngine, State.answered, hmode]
  · exact onRequest_refuse (d := decideStart) hs (by simp [decideStart, hstate])
  · refine onRequest_refuse (d := decideStart) hs ?_
    rcases hstate with hstate | hstate | hstate <;> simp [decideStart, hstate]
  · have hexec : exec (.stop tag) s = .next (stopEngine (s.answered (.stop tag) .ok [])) := onRequest_accept hs rfl
    have hengine : (s.answered (.stop tag) .ok []).engine = s.engine := rfl
    have hquiet : (s.answered (.stop tag) .ok []).quiet = s.quiet := rfl
    rw [hexec, stopEngine, hengine, hquiet]
    refine ⟨fun hstate hopen => ?_, fun hstate => ?_, fun hstate => ?_⟩
    · rcases hstate with hstate | hstate <;> simp [hstate, hopen, State.answered]
    · rcases hstate with ⟨hstate, hopen⟩ | hstate
      · cases hq : s.quiet.state <;> simp_all [enterStopped]
      · simp [hstate, enterStopped, hengine]
    · rcases hstate with hstate | hstate | ⟨hstate, hopen⟩
      · simp [hstate]
      · simp [hstate]
      · cases hq : s.quiet.state <;> simp_all
  · exact onRequest_accept (d := decideStep) (f := stepEngine) hs (by simp [decideStep, hstate, hquiet])
  · refine onRequest_refuse (d := decideStep) hs ?_
    cases hq : s.quiet.state <;> simp_all [decideStep]
  · exact onRequest_refuse (d := decideStep) hs (by simp [decideStep, hstate])
  · refine onRequest_refuse (d := decideStep) hs ?_
    rcases hstate with hstate | hstate | hstate <;> simp [decideStep, hstate]

/-- Settles O34: a round that completes leaves the engine by its state. -/
theorem roundCompletes : Obligations.RoundCompletes := by
  intro s hs
  have hexec : exec .roundComplete s = .next (completeRound s) := onEvent_of_quiescent _ hs
  rw [hexec, completeRound]
  refine ⟨fun hprogress => ⟨fun hstate => ?_, fun hstate => ?_, fun hstate => ?_⟩, fun hprogress => by simp [hprogress]⟩
  · refine ⟨_, by simp [hprogress, hstate], rfl, ?_⟩
    simp [State.roundDue, hstate]
  · simp [hprogress, hstate, enterStopped]
  · simp [hprogress, hstate]

/-- Settles O35: a slot carries what the command pool chooses for its entry. -/
theorem slotCarriesSegment : Obligations.SlotCarriesSegment := by
  intro n p s h
  refine ⟨fun hstale => ?_, fun hlive => ⟨fun hmoving t ht => ?_, fun hstate hsurvey => ?_, fun hstate hsurvey => ⟨fun k ks hk => ⟨fun q hq => ?_,
    fun hq hpace => ?_, fun hq hpace => ?_⟩, fun hk => ?_⟩⟩⟩
  · rw [exec_slotStart h, if_pos hstale]
    have hsame : s.engine.plan.positions.modify n.val (fun q => { q with started := true }) =
        s.engine.plan.positions.modify n.val fun q => { q with started := true, sent := p.sent } := by
      apply List.ext_getElem?
      intro k
      rw [List.getElem?_modify, List.getElem?_modify]
      split
      · next hk => subst hk; rw [h.position]; rfl
      · rfl
    rw [State.withPlan, Plan.updateAt, hsame]
  · rw [exec_slotStart_live h hlive (chooseSegment_moving hmoving ht), burst_eq]
    rfl
  · rw [exec_slotStart_live h hlive (chooseSegment_survey hstate hsurvey), burst_eq]
    rfl
  · rw [exec_slotStart_live h hlive (chooseSegment_again hstate hsurvey hk hq), burst_eq]
    rfl
  · rw [exec_slotStart_live h hlive (chooseSegment_anew hstate hsurvey hk hq hpace), burst_eq]
    rfl
  · rw [exec_slotStart_live h hlive (chooseSegment_paced hstate hsurvey hk hq hpace), burst_eq]
    rfl
  · rw [exec_slotStart_live h hlive (chooseSegment_idle hstate hsurvey hk), burst_eq]
    rfl

/-- Settles O38: the wanted class and the up count follow the score through R55 and R56. -/
theorem classProposedFromScore : Obligations.ClassProposedFromScore := by
  intro l e hl
  have hraised : raisedUp l e.upCount = min (e.upCount + 1) l.promoteRounds := by
    unfold raisedUp
    split <;> omega
  refine ⟨fun hlow => ?_, fun hlow hhigh => ?_, fun hhigh hup => ?_, fun hhigh hup hrate => ?_, fun hhigh hup hrate => ?_⟩
  · rw [Entry.propose, if_pos hlow]
  · rw [Entry.propose, if_neg (Nat.not_lt.mpr hlow), if_neg (Nat.not_le.mpr hhigh)]
  · rw [Entry.propose, if_neg (by omega), if_pos hhigh, hraised, if_pos (by omega), Nat.min_eq_left hup.le]
  · rw [Entry.propose, if_neg (by omega), if_pos hhigh, hraised, if_neg (by omega), if_neg hrate]
  · rw [Entry.propose, if_neg (by omega), if_pos hhigh, hraised, if_neg (by omega), if_pos hrate]

/-- Settles O46: the bands fill the length, the last taking the rest. -/
theorem bandsPatternFillsLength : Obligations.BandsPatternFillsLength := by
  intro g n hkind hbands hsize hbytes
  have hlength : (g.bytes.take g.bands).length = g.bands := by simpa using hbytes
  have hne : g.bytes.take g.bands ≠ [] := fun h => by rw [h] at hlength; exact absurd hlength.symm (Nat.ne_of_gt hbands)
  rw [PatternGroup.make, hkind]
  refine ⟨length_fillBands hne, fun i hi => ?_⟩
  rw [getElem?_fillBands hne hsize hi, hlength, List.getElem?_take_of_lt (by omega)]

end Sys2Proof.Proofs
end

section
/-!
PROOFS. What the shared operations do: notices sent, answers and bars added, an entry freed, a record deposited; and the end of quiet
(2.5, 2.7, 2.8, 4.4, 8.3).
-/
namespace Sys2Proof.Proofs
open Sys2Proof.Machine

section
variable {s t : State}

/-! ### Notices -/

/-- Sending notices touches the control link only, and what it makes of it depends on nothing else. -/
theorem notifyAll_eq (ns : List Notice) (s : State) : notifyAll ns s = { s with control := ns.foldl (fun k n => k.post n) s.control } := by
  induction ns generalizing s with
  | nil => rfl
  | cons n ns ih => exact ih (notify n s)

theorem control_notifyAll (ns : List Notice) (s : State) : (notifyAll ns s).control = ns.foldl (fun k n => k.post n) s.control := by
  rw [notifyAll_eq]

theorem control_notifyAll_congr (ns : List Notice) (h : s.control = t.control) : (notifyAll ns s).control = (notifyAll ns t).control := by
  rw [control_notifyAll, control_notifyAll, h]

/-- Notices sent before an update of the rest of the state. -/
theorem notifyAll_append (ns ms : List Notice) (s : State) : notifyAll (ns ++ ms) s = notifyAll ms (notifyAll ns s) := List.foldl_append

/-! ### Bars -/

/-- The bar with the fewest rounds remaining, the nearest the head of several, goes (R47). -/
theorem dropFewest_eq {pre post : List Bar} {b : Bar} (hb : b.rounds ≤ 65535) (hpre : ∀ x ∈ pre, b.rounds < x.rounds)
    (hpost : ∀ x ∈ post, b.rounds ≤ x.rounds) : dropFewest (pre ++ b :: post) = pre ++ post := by
  have hleast : ((pre ++ b :: post).map Bar.rounds).foldl min 65535 = b.rounds := by
    have hmin : (65535 :: (pre ++ b :: post).map Bar.rounds).min? = some b.rounds := by
      refine List.min?_eq_some_iff.mpr ⟨by simp, fun n hn => ?_⟩
      rcases List.mem_cons.mp hn with rfl | hn
      · exact hb
      · obtain ⟨x, hx, rfl⟩ := List.mem_map.mp hn
        rcases List.mem_append.mp hx with hx | hx
        · exact (hpre x hx).le
        · rcases List.mem_cons.mp hx with rfl | hx
          · exact le_rfl
          · exact hpost x hx
    rw [List.min?_cons'] at hmin
    exact Option.some.inj hmin
  rw [dropFewest, hleast, List.eraseP_append_right, List.eraseP_cons_of_pos (by simp)]
  intro x hx
  simpa using (hpre x hx).ne'

theorem any_car {bars : List Bar} {car : CarNumber} : (bars.any fun b => b.car == car) = true ↔ ∃ b ∈ bars, b.car = car := by
  simp

/-! ### Freeing an entry -/

/-- All that freeing an entry does to a plan: its positions become stale. -/
theorem markStale_eq (i : Index) (p : Plan) :
    p.markStale i = { p with positions := p.positions.map fun q => { q with stale := q.stale || decide (q.index = i) } } := by
  have hmark : (fun q : Position => if q.index = i then { q with stale := true } else q) =
      fun q => { q with stale := q.stale || decide (q.index = i) } := by
    funext q
    split
    · next h => simp [h]
    · next h => simp [h]
  rw [Plan.markStale, hmark]

theorem clearEntry_answers (i : Index) (s : State) : (clearEntry i s).answers = s.answers.filter fun a => !(match a.result with
    | .place .. => a.car == (s.entry i).car
    | .denial _ => false) := by
  refine List.filter_congr fun a _ => ?_
  cases a.result <;> rfl

/-! ### A record deposited -/

/-- An arrival announces itself in EACH mode, else when it brings the count to the threshold count (R81). -/
theorem announces_iff {cfg : QueueSetting} {n : Nat} : cfg.announces (n + 1) = true ↔ cfg.notice = true ∧
    (cfg.threshold = 0 ∨ (cfg.depth * cfg.threshold ≤ 8 * (n + 1) ∧ (8 * n < cfg.depth * cfg.threshold ∨ n = 0))) := by
  have hcount : n + 1 = cfg.thresholdCount ↔
      cfg.depth * cfg.threshold ≤ 8 * (n + 1) ∧ (8 * n < cfg.depth * cfg.threshold ∨ n = 0) := by
    unfold QueueSetting.thresholdCount
    generalize cfg.depth * cfg.threshold = x
    omega
  simp [QueueSetting.announces, hcount]

theorem lose_eq (depth : Nat) (x : RxQueue) :
    x.lose depth = { x with lost := min (x.lost + 1) 255, episode := x.episode || decide (depth ≠ 0) } := by
  have hdepth : (depth != 0) = decide (depth ≠ 0) := by by_cases h : depth = 0 <;> simp [h]
  rw [RxQueue.lose, hdepth]
  rfl

/-! ### A claim withdrawn -/

theorem claimWithdrawn_kept (h : s.quiet.state ≠ .silent ∨ s.quiet.claimed = true) : claimWithdrawn s = s :=
  if_neg fun ⟨hsilent, hclaimed⟩ => h.elim (fun h => h hsilent) fun h => by rw [h] at hclaimed; cases hclaimed

theorem claimWithdrawn_ends (hsilent : s.quiet.state = .silent) (hclaimed : s.quiet.claimed = false) : claimWithdrawn s =
    notify (.quietEnd s.quiet.timer) { s with quiet := { s.quiet with state := .opened, ack := false } } := if_pos ⟨hsilent, hclaimed⟩

theorem lineWithdrawn_held (h : s.quiet.lineClaim = true) :
    lineWithdrawn s = claimWithdrawn { s with quiet := { s.quiet with lineClaim := false } } := if_pos h

theorem lineWithdrawn_not (h : s.quiet.lineClaim = false) : lineWithdrawn s = s := if_neg (by simp [h])

theorem setHostClaim_same {on : Bool} {m : Moment} (h : s.quiet.hostClaim = on) : setHostClaim on m s = s := if_pos h

theorem setHostClaim_off {m : Moment} (h : s.quiet.hostClaim = true) :
    setHostClaim false m s = claimWithdrawn { s with quiet := { s.quiet with hostClaim := false } } := by
  simp [setHostClaim, h]

theorem setHostClaim_on {m : Moment} (h : s.quiet.hostClaim = false) :
    setHostClaim true m s = claimArrived m { s with quiet := { s.quiet with hostClaim := true } } := by
  simp [setHostClaim, h]

/-- QUIET answers with the state it leads to, which the reply itself does not change. -/
theorem exec_quiet {tag value : Byte} {m : Moment} (h : s.Takes (.quiet tag value m)) (hv : value = 0 ∨ value = 1) :
    exec (.quiet tag value m) s = .next (setHostClaim (value == 1) m
      (s.answered (.quiet tag value m) .ok (setHostClaim (value == 1) m s).quiet.replyBytes)) :=
  onRequest_decided (d := decideQuiet value m) h (if_pos hv)

end

/-! ### The obligations -/

/-- Settles O43: a queue with room keeps the record and may announce it, a full one counts it and announces the first loss. -/
theorem arrivalsAnnounced : Obligations.ArrivalsAnnounced := by
  refine fun q r s => ⟨fun hroom => ⟨fun hnotice hthreshold => ?_, fun hquiet => ?_⟩, fun hfull => ⟨fun hdepth hepisode => ?_, fun hquiet => ?_⟩⟩
  · have hannounces := announces_iff.mpr ⟨hnotice, hthreshold⟩
    simp only [deposit, if_pos hroom, List.length_append, List.length_singleton, hannounces, if_true]
    rfl
  · have hannounces : (s.queueSetting q).announces ((s.rx q).records.length + 1) = false := by
      rw [← Bool.not_eq_true, announces_iff]
      rintro ⟨hnotice, hthreshold⟩
      rcases hquiet with hquiet | ⟨hzero, hcrossing⟩
      · rw [hquiet] at hnotice; cases hnotice
      · exact hthreshold.elim hzero hcrossing
    simp only [deposit, if_pos hroom, List.length_append, List.length_singleton, hannounces]
    rfl
  · simp only [deposit, if_neg (Nat.not_lt.mpr hfull), lose_eq]
    exact if_pos ⟨hdepth, hepisode⟩
  · simp only [deposit, if_neg (Nat.not_lt.mpr hfull), lose_eq]
    refine if_neg fun ⟨hdepth, hepisode⟩ => hquiet.elim hdepth fun hquiet => ?_
    rw [hquiet] at hepisode
    cases hepisode

/-- Settles O49: an answer and a bar are added where there is room, and a bar displaces the one with the fewest rounds. -/
theorem answersAndBarsAdded : Obligations.AnswersAndBarsAdded := by
  refine ⟨fun a s => ⟨fun hroom hnone => addAnswer_room hroom ?_, fun hfull => addAnswer_not ?_⟩,
    fun car n s => ⟨fun h => if_pos h, fun h => ⟨fun pre b post hbars hcar hothers => ?_, fun hnone => ⟨fun hroom => ?_, fun hfull pre b post hbars hb hpre hpost => ?_⟩⟩⟩⟩
  · simpa [State.answerWaits] using hnone
  · rintro ⟨hroom, hwaits⟩
    rcases hfull with hfull | ⟨x, hx, hcar⟩
    · exact absurd hroom (Nat.not_lt.mpr hfull)
    · simp only [State.answerWaits, List.any_eq_false, beq_iff_eq] at hwaits
      exact hwaits x hx hcar
  · have hsame : ∀ xs : List Bar, (∀ x ∈ xs, x.car ≠ car) → xs.map (fun x => if x.car = car then { x with rounds := n } else x) = xs :=
      fun xs hxs => (List.map_congr_left fun x hx => if_neg (hxs x hx)).trans (List.map_id xs)
    rw [addBar, if_neg (by omega), if_pos (any_car.mpr ⟨b, by simp [hbars], hcar⟩), hbars, List.map_append, List.map_cons, if_pos hcar,
      hsame pre fun x hx => hothers x (by simp [hx]), hsame post fun x hx => hothers x (by simp [hx])]
    simp [← hcar]
  · rw [addBar, if_neg (by omega), if_neg (fun hany => let ⟨x, hx, hcar⟩ := any_car.mp hany; hnone x hx hcar), if_pos hroom]
  · rw [addBar, if_neg (by omega), if_neg (fun hany => let ⟨x, hx, hcar⟩ := any_car.mp hany; hnone x hx hcar), if_neg (Nat.not_lt.mpr hfull),
      hbars, dropFewest_eq hb hpre hpost]

/-- Settles O50: freeing clears the entry, its place in the lists and the plans, and sends its notices. -/
theorem freeingEntry : Obligations.FreeingEntry := by
  intro i note r s
  refine ⟨?_, by rw [entry_freeEntry, if_pos rfl], fun j hj => by rw [entry_freeEntry, if_neg hj.symm]⟩
  rw [freeEntry, notifyAll_eq, notifyAll_eq, ← markStale_eq, ← markStale_eq, ← markStale_eq]
  exact congrArg (fun as => { clearEntry i s with
    control := (note.toList ++ (s.entry i).undelivered r).foldl (fun k n => k.post n) s.control, answers := as }) (clearEntry_answers i s)

/-- Settles O55: the end of quiet by the claims held and the state of the controller. -/
theorem quietEnds : Obligations.QuietEnds := by
  refine fun s => ⟨fun hs => ?_, fun tag m hs => ?_⟩
  · have hwithdrawn : exec .lineClaimWithdrawn s = .next (lineWithdrawn s) := onEvent_of_quiescent _ hs
    have hdrain : exec .drainEnd s = .next (drained s) := onEvent_of_quiescent _ hs
    have htick : exec .quietTimerTick s = .next (tickQuiet s) := onEvent_of_quiescent _ hs
    rw [hwithdrawn, hdrain, htick]
    refine ⟨fun hline => by rw [lineWithdrawn_not hline], fun hline => ⟨fun hheld => ?_, fun hsilent hhost => ?_⟩,
      fun hstate => by simp [drained, hstate],
      fun hstate => ⟨fun hclaimed => by simp [drained, hstate, hclaimed], fun hclaimed => by simp [drained, hstate, hclaimed, enterSilent]⟩,
      fun hstate => by simp [tickQuiet, hstate], fun hstate => by simp [tickQuiet, hstate, saturate], fun car silent => onEvent_of_quiescent _ hs⟩
    · rw [lineWithdrawn_held hline]
      exact congrArg Host.Outcome.next (claimWithdrawn_kept hheld)
    · rw [lineWithdrawn_held hline]
      exact congrArg Host.Outcome.next (claimWithdrawn_ends hsilent hhost)
  · have hexec := exec_quiet hs (.inl rfl)
    refine ⟨fun hhost => ?_, fun hhost => ⟨fun hheld => ?_, fun hsilent hline => ?_⟩⟩
    · have hsame : ∀ t : State, t.quiet.hostClaim = false → setHostClaim ((0 : Byte) == 1) m t = t := fun t ht => setHostClaim_same ht
      rw [hexec, hsame s hhost, hsame (s.answered _ _ _) hhost]
    · have hcleared : ∀ t : State, t.quiet = s.quiet →
          setHostClaim ((0 : Byte) == 1) m t = { t with quiet := { s.quiet with hostClaim := false } } := by
        intro t ht
        refine (setHostClaim_off (ht ▸ hhost)).trans ?_
        rw [ht]
        exact claimWithdrawn_kept (hheld.imp id fun hline => by simp [Quiet.claimed, hline])
      rw [hexec, hcleared s rfl, hcleared (s.answered _ _ _) rfl]
    · have hopened : ∀ t : State, t.quiet = s.quiet → setHostClaim ((0 : Byte) == 1) m t = notify (.quietEnd s.quiet.timer)
          { t with quiet := { s.quiet with hostClaim := false, state := .opened, ack := false } } := by
        intro t ht
        refine (setHostClaim_off (ht ▸ hhost)).trans ?_
        rw [ht]
        exact claimWithdrawn_ends hsilent (by simp [Quiet.claimed, hline])
      rw [hexec, hopened s rfl, hopened (s.answered _ _ _) rfl]
      rfl

end Sys2Proof.Proofs
end

section
/-!
PROOFS. The chain ports and the handover frames received (6.3 to 6.5, 7).
-/
namespace Sys2Proof.Proofs
open Sys2Proof.Machine

section
variable {s : State} {p : PortId} {src dst : Byte}

/-! ### A frame counted in and screened (R106) -/

/-- Counting a frame in touches the ports only. -/
theorem updatePort_eq (s : State) (p : PortId) (f : Port → Port) : ∃ q, s.updatePort p f = { s with ports := q } := by
  cases p <;> exact ⟨_, rfl⟩

theorem addressed_iff : s.addressed p src dst = true ↔ s.neighbour p ≠ 0 ∧ src = s.neighbour p ∧ dst = s.image.node.node := by
  simp [State.addressed, and_assoc]

section
variable {α : Type} {fields : Option α} {decide : α → State → State} {q : Ports}

theorem receiveHandover_misaddressed (hq : s.updatePort p Port.frameIn = { s with ports := q })
    (h : s.neighbour p = 0 ∨ src ≠ s.neighbour p ∨ dst ≠ s.image.node.node) :
    receiveHandover p src dst fields decide s = misaddressedFrame { s with ports := q } := by
  have hnot : ¬ s.addressed p src dst = true := fun haddressed => by
    obtain ⟨hn, hs, hd⟩ := addressed_iff.mp haddressed
    exact h.elim hn (fun h => h.elim (· hs) (· hd))
  simp only [receiveHandover, hq]
  exact if_neg (by simpa [State.addressed, State.neighbour] using hnot)

theorem receiveHandover_stray (hq : s.updatePort p Port.frameIn = { s with ports := q }) (h : s.addressed p src dst = true)
    (hf : fields = none) : receiveHandover p src dst fields decide s = strayFrame { s with ports := q } := by
  subst hf
  simp only [receiveHandover, hq]
  exact if_pos (by simpa [State.addressed, State.neighbour] using h)

theorem receiveHandover_some {a : α} (hq : s.updatePort p Port.frameIn = { s with ports := q }) (h : s.addressed p src dst = true)
    (hf : fields = some a) : receiveHandover p src dst fields decide s = decide a { s with ports := q } := by
  subst hf
  simp only [receiveHandover, hq]
  exact if_pos (by simpa [State.addressed, State.neighbour] using h)

end

theorem carInRange_eq_none {car : CarNumber} (h : car = 0) : carInRange car = none := if_pos h

theorem carInRange_eq_some {car : CarNumber} (h : car ≠ 0) : carInRange car = some car := if_neg h

theorem rateOfCode_code (cls : RateClass) : RateClass.ofCode (byteOf cls.code).toNat = some cls := by cases cls <;> rfl

theorem rateOfCode_eq_none {n : Nat} (h : 3 ≤ n) : RateClass.ofCode n = none := by
  match n, h with
  | n + 3, _ => rfl

theorem refuseOfCode_eq_none {n : Nat} (h : n = 0 ∨ 6 ≤ n) : RefuseReason.ofCode n = none := by
  match n, h with
  | 0, _ => rfl
  | n + 6, _ => rfl
  | 1, h | 2, h | 3, h | 4, h | 5, h => omega

/-! ### OFFER -/

theorem readOffer_eq_none {b : OfferBody} (h : b.car = 0 ∨ 3 ≤ b.cls.toNat ∨ b.allowance = 0 ∨ 16 ≤ b.allowance.toNat ∨
    (16 ≤ b.lastSeq.toNat ∧ b.lastSeq ≠ 0xFF) ∨ 16 ≤ b.nextSeq.toNat) : Offer.read b = none := by
  unfold Offer.read
  split
  · rfl
  · next cls hcls =>
    rw [if_neg]
    rintro ⟨hcar, hlow, hhigh, hlast, hnext⟩
    rcases h with h | h | h | h | ⟨h, h'⟩ | h
    · exact hcar h
    · rw [rateOfCode_eq_none h] at hcls
      cases hcls
    · rw [h] at hlow
      exact absurd hlow (by decide)
    · omega
    · exact hlast.elim (fun hl => by omega) h'
    · omega

theorem readOffer_eq_some {b : OfferBody} {cls : RateClass} {code : Code} {last : Option Seq} {next : Seq} (hcar : b.car ≠ 0)
    (hcls : b.cls = byteOf cls.code) (hallowance : b.allowance = code.zeroExtend 8) (hcode : code ≠ 0) (hlast : b.lastSeq = seqByte last)
    (hnext : b.nextSeq = next.zeroExtend 8) : Offer.read b = some
      { car := b.car, cls := cls, code := code, survey := b.survey.getLsbD 0, score := b.score.toNat, lastSeq := last, nextSeq := next } := by
  have hnarrow : ∀ v : BitVec 4, (v.zeroExtend 8).toNat = v.toNat ∧ (v.zeroExtend 8).truncate 4 = v := fun v =>
    ⟨by simp [BitVec.toNat_setWidth]; omega, by apply BitVec.eq_of_toNat_eq; simp⟩
  have hpos : 1 ≤ code.toNat := Nat.one_le_iff_ne_zero.mpr fun h => hcode (BitVec.eq_of_toNat_eq h)
  have hlastIn : (seqByte last).toNat ≤ 15 ∨ seqByte last = 0xFF := by
    cases last with
    | none => exact .inr rfl
    | some v => exact .inl (by rw [seqByte, (hnarrow v).1]; omega)
  have hlastRead : (if seqByte last = 0xFF then none else some ((seqByte last).truncate 4)) = last := by
    cases last with
    | none => rfl
    | some v =>
      have hne : seqByte (some v) ≠ 0xFF := fun h => by
        have := congrArg BitVec.toNat h
        rw [seqByte, (hnarrow v).1] at this
        have := v.isLt
        simp at *
        omega
      rw [if_neg hne]
      exact congrArg some (hnarrow v).2
  unfold Offer.read
  rw [hcls, rateOfCode_code]
  simp only
  rw [if_pos ⟨hcar, by rw [hallowance, (hnarrow code).1]; exact hpos, by rw [hallowance, (hnarrow code).1]; omega,
    by rw [hlast]; exact hlastIn, by rw [hnext, (hnarrow next).1]; omega⟩, hallowance, hlast, hnext, hlastRead, (hnarrow code).2, (hnarrow next).2]

section
variable {o : Offer}

theorem decideOffer_busy {i : Index} (hrunning : s.engine.state ≠ .stopped) (hi : s.findCar o.car = some i)
    (hbusy : (s.entry i).state = .arriving ∨ (s.entry i).state = .pending) : decideOffer p src o s = refuseOffer p src o.car .busy s := by
  rw [decideOffer, if_neg hrunning, hi]
  rcases hbusy with h | h <;> simp only [h]

theorem decideOffer_present {i : Index} (hrunning : s.engine.state ≠ .stopped) (hi : s.findCar o.car = some i)
    (harriving : (s.entry i).state ≠ .arriving) (hpending : (s.entry i).state ≠ .pending) :
    decideOffer p src o s = refuseOffer p src o.car .present s := by
  rw [decideOffer, if_neg hrunning, hi]
  simp only

theorem decideOffer_full (hrunning : s.engine.state ≠ .stopped) (hnone : s.findCar o.car = none) (hfull : s.firstFree = none) :
    decideOffer p src o s = refuseOffer p src o.car .full s := by
  rw [decideOffer, if_neg hrunning, hnone]
  simp only [hfull]

theorem decideOffer_airtime {i : Index} (hrunning : s.engine.state ≠ .stopped) (hnone : s.findCar o.car = none) (hi : s.firstFree = some i)
    (hfits : s.fitsOneMore o.code o.cls = false) : decideOffer p src o s = refuseOffer p src o.car .airtime s := by
  rw [decideOffer, if_neg hrunning, hnone]
  simp only [hi, hfits]
  rfl

theorem decideOffer_reserve {i : Index} (hrunning : s.engine.state ≠ .stopped) (hnone : s.findCar o.car = none) (hi : s.firstFree = some i)
    (hfits : s.fitsOneMore o.code o.cls = true) : decideOffer p src o s = reserve p src o i s := by
  rw [decideOffer, if_neg hrunning, hnone]
  simp only [hi, hfits]
  rfl

end

/-! ### ACCEPT, REFUSE, DONE, CANCEL -/

theorem readAccept_eq_none {a : AcceptBody} (h : a.car = 0 ∨ 24 ≤ a.index.toNat ∨ 16 ≤ a.channel.toNat ∨ 3 ≤ a.cls.toNat) :
    readAccept a = none := by
  unfold readAccept
  split
  · rfl
  · next cls hcls =>
    rw [if_neg]
    rintro ⟨hcar, hindex, hchannel⟩
    rcases h with h | h | h | h
    · exact hcar h
    · omega
    · omega
    · rw [rateOfCode_eq_none h] at hcls
      cases hcls

theorem readAccept_eq_some {a : AcceptBody} {cls : RateClass} (hcar : a.car ≠ 0) (hindex : a.index.toNat ≤ 23) (hchannel : a.channel.toNat ≤ 15)
    (hcls : a.cls = byteOf cls.code) : readAccept a = some { index := a.index, channel := a.channel, cls := cls } := by
  unfold readAccept
  rw [hcls, rateOfCode_code]
  exact if_pos ⟨hcar, hindex, hchannel⟩

theorem readRefuse_eq_none {car : CarNumber} {reason : Byte} (h : car = 0 ∨ reason = 0 ∨ 6 ≤ reason.toNat) : readRefuse car reason = none := by
  unfold readRefuse
  rcases h with h | h
  · rw [carInRange_eq_none h]
  · rw [refuseOfCode_eq_none (h.imp (fun h => by rw [h]; rfl) id)]
    cases carInRange car <;> rfl

theorem readRefuse_eq_some {car : CarNumber} {reason : Byte} {r : RefuseReason} (hcar : car ≠ 0)
    (hr : RefuseReason.ofCode reason.toNat = some r) : readRefuse car reason = some (car, r) := by
  rw [readRefuse, carInRange_eq_some hcar, hr]

/-- The entry of a car in place, by its state and its peer (R122). -/
theorem inPlace_eq_some {car : CarNumber} {x y : EntryState} {i : Index} (hi : s.findCar car = some i)
    (hstate : (s.entry i).state = x ∨ (s.entry i).state = y) (hpeer : (s.entry i).peer = some src) : s.inPlace car src x y = some i := by
  simp [State.inPlace, hi, hstate, hpeer]

theorem inPlace_eq_none {car : CarNumber} {x y : EntryState}
    (h : ∀ i, s.findCar car = some i → ((s.entry i).state ≠ x ∧ (s.entry i).state ≠ y) ∨ (s.entry i).peer ≠ some src) :
    s.inPlace car src x y = none := by
  cases hi : s.inPlace car src x y with
  | none => rfl
  | some i =>
    obtain ⟨hfind, hstate, hpeer⟩ := inPlace_some hi
    exact absurd hpeer ((h i hfind).elim (fun h => (hstate.elim h.1 h.2).elim) id)

section
variable {i : Index} {car : CarNumber} (hcar : (s.entry i).car = car) (hpeer : (s.entry i).peer = some src)
include hcar hpeer

theorem handOver_eq (present : Bool) : handOver i present s = freeEntry i (some (.handedOver car i src present)) .moved s := by
  simp only [handOver, hcar, hpeer]
  rfl

theorem decideRefuse_present (hin : s.inPlace car src .offering .offering = some i) :
    decideRefuse src (car, .present) s = freeEntry i (some (.handedOver car i src true)) .moved s := by
  rw [decideRefuse, hin]
  exact (if_pos rfl).trans (handOver_eq hcar hpeer true)

theorem decideRefuse_back {r : RefuseReason} (hr : r ≠ .present) (hin : s.inPlace car src .offering .offering = some i) :
    decideRefuse src (car, r) s = notify (.handoverRefused car i src r) (s.setEntry i (s.entry i).backToActive) := by
  rw [decideRefuse, hin]
  refine (if_neg hr).trans ?_
  simp only [hcar, hpeer]
  rfl

theorem decideDone_place (hin : s.inPlace car src .offering .moving = some i) :
    decideDone src car s = freeEntry i (some (.handedOver car i src false)) .moved s := by
  rw [decideDone, hin]
  exact handOver_eq hcar hpeer false

theorem decideCancel_place (hin : s.inPlace car src .arriving .arriving = some i) :
    decideCancel src car s = freeEntry i (some (.arrivalCancelled car i src)) .moved s := by
  rw [decideCancel, hin]
  simp only [hcar, hpeer]
  rfl

end

end

/-! ### The obligations -/

/-- Settles O56: a handover frame goes out addressed, and one that comes in is counted. -/
theorem chainFramesAddressed : Obligations.ChainFramesAddressed := by
  refine ⟨fun p dst b s => rfl, fun b s => ⟨rfl, fun n => ⟨fun hn hup => ?_, fun hn hup hdown => ?_, fun h => ?_⟩⟩, fun x => rfl,
    fun p s => ⟨fun h => if_pos h, fun h => ⟨fun hline => ?_, fun f hline => ?_⟩⟩⟩
  · have hport : s.portFacing n = some .up := by rw [State.portFacing, if_neg hn, if_pos hup]
    simp only [sendToPeer, hport]
  · have hport : s.portFacing n = some .down := by rw [State.portFacing, if_neg hn, if_neg hup, if_pos hdown]
    simp only [sendToPeer, hport]
  · have hport : s.portFacing n = none := by
      rcases h with h | ⟨hup, hdown⟩
      · exact if_pos h
      · rw [State.portFacing, if_neg hup, if_neg hdown, ite_self]
    simp only [sendToPeer, hport]
  · simp [State.portSends, h, Port.sends, hline, fillByte]
  · simp [State.portSends, h, Port.sends, hline]

/-- Settles O57: an OFFER is screened and decided by the first line of R116 that applies. -/
theorem offerDecided : Obligations.OfferDecided := by
  intro p src dst b s hs base c refuse
  obtain ⟨q, hq⟩ := updatePort_eq s p Port.frameIn
  have hbase : base = { s with ports := q } := hq
  have hexec : exec c s = .next (receiveHandover p src dst (Offer.read b) (decideOffer p src) s) := onEvent_of_quiescent _ hs
  clear_value base
  subst hbase
  rw [hexec]
  refine ⟨fun h => congrArg _ (receiveHandover_misaddressed hq h), fun hn hsrc hdst => ?_⟩
  have haddressed := addressed_iff.mpr ⟨hn, hsrc, hdst⟩
  refine ⟨fun h => congrArg _ (receiveHandover_stray hq haddressed (readOffer_eq_none h)), fun cls code last next hcar hcls hallowance hcode hlast hnext => ?_⟩
  rw [receiveHandover_some hq haddressed (readOffer_eq_some hcar hcls hallowance hcode hlast hnext)]
  refine ⟨fun hstopped => congrArg _ (if_pos hstopped), fun hrunning => ⟨fun i hi => ⟨fun hbusy => ?_, fun harriving hpending => ?_⟩,
    fun hnone hfull => congrArg _ (decideOffer_full (s := { s with ports := q }) hrunning hnone hfull), fun i hnone hi => ?_⟩⟩
  · exact congrArg _ (decideOffer_busy (s := { s with ports := q }) hrunning hi hbusy)
  · exact congrArg _ (decideOffer_present (s := { s with ports := q }) hrunning hi harriving hpending)
  · refine ⟨fun hfits => congrArg _ (decideOffer_airtime (s := { s with ports := q }) hrunning hnone hi hfits), fun hfits => ?_⟩
    rw [hcls]
    exact congrArg _ (decideOffer_reserve (s := { s with ports := q }) hrunning hnone hi hfits)

/-- Settles O58: ACCEPT, REFUSE, DONE and CANCEL act on the entry that is in place for them. -/
theorem handoverRepliesActed : Obligations.HandoverRepliesActed := by
  intro p src dst a car reason s hs base stray others
  obtain ⟨q, hq⟩ := updatePort_eq s p Port.frameIn
  have hbase : base = { s with ports := q } := hq
  have haccept : exec (.acceptReceived p src dst a) s = .next (receiveHandover p src dst (readAccept a) (decideAccept p src a.car) s) :=
    onEvent_of_quiescent _ hs
  have hrefuse : exec (.refuseReceived p src dst car reason) s = .next (receiveHandover p src dst (readRefuse car reason) (decideRefuse src) s) :=
    onEvent_of_quiescent _ hs
  have hdone : exec (.doneReceived p src dst car) s = .next (receiveHandover p src dst (carInRange car) (decideDone src) s) :=
    onEvent_of_quiescent _ hs
  have hcancel : exec (.cancelReceived p src dst car) s = .next (receiveHandover p src dst (carInRange car) (decideCancel src) s) :=
    onEvent_of_quiescent _ hs
  have hothers : ∀ {t : State}, exec (.refuseReceived p src dst car reason) s = .next t → exec (.doneReceived p src dst car) s = .next t →
      exec (.cancelReceived p src dst car) s = .next t → ∀ c ∈ others, exec c s = .next t := by
    intro t h₁ h₂ h₃ c hc
    rcases List.mem_cons.mp hc with rfl | hc
    · exact h₁
    · rcases List.mem_cons.mp hc with rfl | hc
      · exact h₂
      · exact List.mem_singleton.mp hc ▸ h₃
  clear_value base
  subst hbase
  refine ⟨fun h c hc => ?_, fun hn hsrc hdst => ?_⟩
  · rcases List.mem_cons.mp hc with rfl | hc
    · rw [haccept, receiveHandover_misaddressed hq h]
      rfl
    · refine hothers ?_ ?_ ?_ c hc
      · rw [hrefuse, receiveHandover_misaddressed hq h]
        rfl
      · rw [hdone, receiveHandover_misaddressed hq h]
        rfl
      · rw [hcancel, receiveHandover_misaddressed hq h]
        rfl
  have haddressed := addressed_iff.mpr ⟨hn, hsrc, hdst⟩
  refine ⟨fun h => ?_, fun cls hcar hindex hchannel hcls => ?_, fun hcar => ?_, fun hreason => ?_, fun hcar => ?_⟩
  · rw [haccept, receiveHandover_stray hq haddressed (readAccept_eq_none h)]
    rfl
  · rw [haccept, receiveHandover_some hq haddressed (readAccept_eq_some hcar hindex hchannel hcls)]
    refine ⟨fun i hi hstate hpeer => ?_, fun hplace => ?_⟩
    · have hin : State.inPlace { s with ports := q } a.car src .offering .offering = some i := inPlace_eq_some hi (.inl hstate) hpeer
      simp only [decideAccept, hin]
      rfl
    · have hin : State.inPlace { s with ports := q } a.car src .offering .offering = none :=
        inPlace_eq_none fun i hi => (hplace i hi).imp (fun h => ⟨h, h⟩) id
      simp only [decideAccept, hin]
  · refine hothers ?_ ?_ ?_
    · rw [hrefuse, receiveHandover_stray hq haddressed (readRefuse_eq_none (.inl hcar))]
      rfl
    · rw [hdone, receiveHandover_stray hq haddressed (carInRange_eq_none hcar)]
      rfl
    · rw [hcancel, receiveHandover_stray hq haddressed (carInRange_eq_none hcar)]
      rfl
  · rw [hrefuse, receiveHandover_stray hq haddressed (readRefuse_eq_none (.inr hreason))]
    rfl
  have hstray : State.inPlace { s with ports := q } car src .offering .offering = none →
      exec (.refuseReceived p src dst car reason) s = .next stray := by
    intro hin
    rw [hrefuse]
    cases hr : RefuseReason.ofCode reason.toNat with
    | none =>
      have hread : readRefuse car reason = none := by rw [readRefuse, hr]; cases carInRange car <;> rfl
      rw [receiveHandover_stray hq haddressed hread]
      rfl
    | some r =>
      rw [receiveHandover_some hq haddressed (readRefuse_eq_some hcar hr)]
      simp only [decideRefuse, hin]
      rfl
  have hdone' : exec (.doneReceived p src dst car) s = .next (decideDone src car { s with ports := q }) :=
    hdone.trans (congrArg _ (receiveHandover_some hq haddressed (carInRange_eq_some hcar)))
  have hcancel' : exec (.cancelReceived p src dst car) s = .next (decideCancel src car { s with ports := q }) :=
    hcancel.trans (congrArg _ (receiveHandover_some hq haddressed (carInRange_eq_some hcar)))
  have hdoneStray : State.inPlace { s with ports := q } car src .offering .moving = none → exec (.doneReceived p src dst car) s = .next stray := by
    intro hin
    rw [hdone']
    simp only [decideDone, hin]
    rfl
  have hcancelStray : State.inPlace { s with ports := q } car src .arriving .arriving = none →
      exec (.cancelReceived p src dst car) s = .next stray := by
    intro hin
    rw [hcancel']
    simp only [decideCancel, hin]
    rfl
  refine ⟨fun hnone => hothers (hstray (inPlace_eq_none fun i hi => .inr (hnone i hi))) (hdoneStray (inPlace_eq_none fun i hi => .inr (hnone i hi)))
    (hcancelStray (inPlace_eq_none fun i hi => .inr (hnone i hi))), fun i hi hpeer => ?_⟩
  have hunique : ∀ {P : Index → Prop}, P i → ∀ j, s.findCar car = some j → P j := fun h j hj => Option.some.inj (hi.symm.trans hj) ▸ h
  have hcarEq : (s.entry i).car = car := (findCar_some hi).2
  refine ⟨fun hstate => hstray (inPlace_eq_none (hunique (.inl ⟨hstate, hstate⟩))), fun hstate hreason => ?_, fun hstate r hr hpresent => ?_,
    fun hstate => ?_, fun hoffering hmoving => hdoneStray (inPlace_eq_none (hunique (.inl ⟨hoffering, hmoving⟩))), fun hstate => ?_,
    fun hstate => hcancelStray (inPlace_eq_none (hunique (.inl ⟨hstate, hstate⟩)))⟩
  · rw [hrefuse, receiveHandover_some hq haddressed (readRefuse_eq_some (r := .present) hcar (by rw [hreason]; rfl))]
    exact congrArg _ (decideRefuse_present hcarEq hpeer (inPlace_eq_some hi (.inl hstate) hpeer))
  · rw [hrefuse, receiveHandover_some hq haddressed (readRefuse_eq_some hcar hr)]
    exact congrArg _ (decideRefuse_back (s := { s with ports := q }) hcarEq hpeer hpresent (inPlace_eq_some hi (.inl hstate) hpeer))
  · exact hdone'.trans (congrArg _ (decideDone_place hcarEq hpeer (inPlace_eq_some hi hstate hpeer)))
  · exact hcancel'.trans (congrArg _ (decideCancel_place hcarEq hpeer (inPlace_eq_some hi (.inl hstate) hpeer)))

/-- Settles O59: a PASS frame is delivered, relayed or dropped by where it came from and where the portal is. -/
theorem passRelayed : Obligations.PassRelayed := by
  intro p src dst hop b s hs base dropped c hops
  have hexec : exec c s = .next (receivePass p hop b s) := onEvent_of_quiescent _ hs
  have hportal : base.portalPort = s.portalPort := by cases p <;> rfl
  have himage : base.image = s.image := by cases p <;> rfl
  rw [hexec, receivePass]
  refine ⟨fun hlength => congrArg _ (if_neg ?_), fun hne hlength => ?_⟩
  · rintro ⟨hpos, hle⟩
    rcases hlength with hnil | hlong
    · rw [hnil] at hpos
      cases hpos
    · omega
  rw [if_pos ⟨List.length_pos_iff.mpr hne, hlength⟩, relayPass, hportal]
  refine ⟨fun hself => ?_, fun q hq => ?_⟩
  · have hnone : s.portalPort = none := by rw [State.portalPort, hself]
    rw [hnone]
    refine ⟨fun hhop => ?_, fun hhop => congrArg _ (if_neg (by omega))⟩
    refine congrArg _ ((if_pos hhop).trans ?_)
    rw [himage]
    rfl
  · rw [hq]
    refine ⟨fun h => congrArg _ (if_pos h), fun h hhop => congrArg _ ((if_neg h).trans (if_pos hhop)),
      fun h hhop => congrArg _ ((if_neg h).trans ((if_neg (by omega)).trans ?_))⟩
    rw [sendPass, himage]

/-- A resting transmitter with room takes the frame submitted, and one that sends queues it (R131, R132). -/
theorem submitHandover_cases (x : Port) (f : ChainFrame) :
    (x.isUp = true → x.handover.length < 8 → x.line ≠ none → x.submitHandover f = { x with handover := x.handover ++ [f] }) ∧
    (x.isUp = true → x.handover = [] → x.line = none → x.submitHandover f = { x with line := some f }) ∧
    (x.isUp = false ∨ 8 ≤ x.handover.length → x.submitHandover f = x.drop) := by
  refine ⟨fun hup hroom hline => ?_, fun hup hnil hline => ?_, fun h => ?_⟩
  · obtain ⟨g, hg⟩ := Option.ne_none_iff_exists'.mp hline
    rw [submitHandover_spec, if_pos ⟨hup, hroom⟩]
    simp [Port.kick, hg]
  · rw [submitHandover_spec, if_pos ⟨hup, by rw [hnil]; decide⟩]
    simp [Port.kick, hnil, hline]
  · rw [submitHandover_spec, if_neg]
    rintro ⟨hup, hroom⟩
    rcases h with h | h
    · rw [h] at hup
      cases hup
    · exact absurd hroom (Nat.not_lt.mpr h)

theorem submitPass_cases (x : Port) (f : ChainFrame) :
    (x.isUp = true → x.passAlong.length < 16 → x.line ≠ none → x.submitPass f = { x with passAlong := x.passAlong ++ [f] }) ∧
    (x.isUp = true → x.handover = [] → x.passAlong = [] → x.line = none → x.submitPass f = { x with line := some f }) ∧
    (x.isUp = false ∨ 16 ≤ x.passAlong.length → x.submitPass f = x.drop) := by
  refine ⟨fun hup hroom hline => ?_, fun hup hhandover hnil hline => ?_, fun h => ?_⟩
  · obtain ⟨g, hg⟩ := Option.ne_none_iff_exists'.mp hline
    rw [submitPass_spec, if_pos ⟨hup, hroom⟩]
    simp [Port.kick, hg]
  · rw [submitPass_spec, if_pos ⟨hup, by rw [hnil]; decide⟩]
    simp [Port.kick, hhandover, hnil, hline]
  · rw [submitPass_spec, if_neg]
    rintro ⟨hup, hroom⟩
    rcases h with h | h
    · rw [h] at hup
      cases hup
    · exact absurd hroom (Nat.not_lt.mpr h)

theorem frameSent_eq {x : Port} {f : ChainFrame} (h : x.line = some f) : x.frameSent =
    Port.kick { x with line := none, counters := { x.counters with framesOut := count16 x.counters.framesOut } } := by
  rw [Port.frameSent, h]

theorem setPort_port (s : State) (p : PortId) : s.setPort p (s.port p) = s := by cases p <;> rfl

/-- Settles O60: what an event of a port's line does to that port, and to nothing else. -/
theorem chainLineEvents : Obligations.ChainLineEvents := by
  intro p s hs x become
  have hexec : ∀ f : Port → Port, onEvent (fun t => t.updatePort p f) s = .next (become (f x)) := fun f => onEvent_of_quiescent _ hs
  have hsame : ∀ f : Port → Port, f x = x → onEvent (fun t => t.updatePort p f) s = .next s := fun f hf => by
    rw [hexec, hf]
    exact congrArg _ (setPort_port s p)
  have hto : ∀ (f : Port → Port) y, f x = y → onEvent (fun t => t.updatePort p f) s = .next (become y) := fun f y hy => hy ▸ hexec f
  refine ⟨hexec _, fun heard hhunting hinside => hto _ _ ?_,
    fun receiving hdown => hsame _ (if_neg (by simp [hdown])),
    fun receiving hup => hto _ _ ?_, fun hline => hsame _ (by rw [Port.frameSent, hline]),
    fun f hline => ⟨fun h hs hh => hto _ _ ?_,
      fun h hs hhandover hpass => hto _ _ ?_,
      fun hhandover hpass => hto _ _ ?_⟩,
    fun f => submitHandover_cases x f, fun f => submitPass_cases x f⟩
  · have hheard : x.receiver.heard = heard := by
      cases hr : x.receiver with
      | hunting => exact (hhunting hr).symm
      | inside bs => exact (hinside bs hr).symm
    rw [Port.badFrame, hheard]
    rfl
  · rw [Port.goDown, if_pos hup]
    have hbad : (if (x.receiver != .hunting || receiving) = true then count16 x.counters.bad else x.counters.bad) =
        if x.receiver = .hunting ∧ receiving = false then x.counters.bad else min (x.counters.bad + 1) 65535 := by
      by_cases hr : x.receiver = .hunting <;> cases receiving <;> simp [hr, count16, saturate]
    rw [hbad]
  · rw [frameSent_eq hline]
    simp [Port.kick, hh, count16, saturate]
  · rw [frameSent_eq hline]
    simp [Port.kick, hhandover, hpass, count16, saturate]
  · rw [frameSent_eq hline]
    simp [Port.kick, hhandover, hpass, count16, saturate]

end Sys2Proof.Proofs
end

section
/-!
PROOFS. The command pool's requests: the numbers that SEND and BROADCAST give, the command a number names, and the tables of SEND,
WITHDRAW and BROADCAST (5.1, 5.3, 5.5).
-/
namespace Sys2Proof.Proofs
open Sys2Proof.Machine

section
variable {s : State}

/-! ### The numbers given (R90, R102) -/

/-- Every number tried before the number given is in use. -/
theorem firstUnused_first {top tries first : Nat} {used : List Nat} (h1 : 1 ≤ first) (h2 : first ≤ top) :
    ∃ d, firstUnused top used tries first = numberAt top first d ∧ ∀ c, c < d → numberAt top first c ∈ used := by
  obtain ⟨d, -, heq, hbefore, -⟩ := firstUnused_place used tries h1 h2
  exact ⟨d, heq, hbefore⟩

theorem mem_commandNumbers_iff {n : Nat} : n ∈ s.commandNumbers ↔ ∃ j : Index, ∃ k ∈ (s.entry j).commands, k.number.toNat = n := by
  simp [State.commandNumbers, indices]

/-- The number after a number given, as the field of the next number holds it. -/
theorem ofNat_numberAfter_half {n : Half} : BitVec.ofNat 16 (numberAfter 65535 n.toNat) = if n = 0xFFFF#16 then 1 else n + 1 := by
  have := n.isLt
  unfold numberAfter
  by_cases hn : n = 0xFFFF#16
  · rw [if_pos hn, hn]; rfl
  · have hne : n.toNat ≠ 65535 := fun h => hn (BitVec.eq_of_toNat_eq h)
    rw [if_neg hn, if_pos (by omega)]
    apply BitVec.eq_of_toNat_eq
    simp [BitVec.toNat_add]

theorem byteOf_numberAfter {n : Byte} : byteOf (numberAfter 255 n.toNat) = if n = 0xFF#8 then 1 else n + 1 := by
  have := n.isLt
  unfold numberAfter
  by_cases hn : n = 0xFF#8
  · rw [if_pos hn, hn]; rfl
  · have hne : n.toNat ≠ 255 := fun h => hn (BitVec.eq_of_toNat_eq h)
    rw [if_neg hn, if_pos (by omega)]
    apply BitVec.eq_of_toNat_eq
    simp [byteOf, BitVec.toNat_add]

/-! ### The command a number names (R87) -/

theorem find_number_eq_none {n : Half} {cs : List Command} (h : ∀ k ∈ cs, k.number ≠ n) : (cs.find? fun k => k.number == n) = none :=
  List.find?_eq_none.mpr fun k hk heq => h k hk (eq_of_beq heq)

theorem findCommand_none {n : Half} (h : ∀ i : Index, ∀ k ∈ (s.entry i).commands, k.number ≠ n) : s.findCommand n = none :=
  List.findSome?_eq_none_iff.mpr fun i _ => by rw [find_number_eq_none (h i)]; rfl

/-- What is found for a number is a command of the pool with it. -/
theorem findCommand_some {n : Half} {i : Index} {k : Command} (h : s.findCommand n = some (i, k)) :
    k ∈ (s.entry i).commands ∧ k.number = n := by
  obtain ⟨j, -, hj⟩ := List.exists_of_findSome?_eq_some h
  obtain ⟨c, hc, heq⟩ := Option.map_eq_some_iff.mp hj
  cases heq
  exact ⟨List.mem_of_find?_eq_some hc, by simpa using List.find?_some hc⟩

/-- A number that one command of the pool alone has names that command. -/
theorem findCommand_unique {n : Half} {i : Index} {k : Command} (hmem : k ∈ (s.entry i).commands) (hnumber : k.number = n)
    (hone : ∀ j : Index, ∀ c ∈ (s.entry j).commands, c.number = n → j = i ∧ c = k) : s.findCommand n = some (i, k) := by
  cases hfound : s.findCommand n with
  | none =>
    have hnone := List.findSome?_eq_none_iff.mp hfound i (List.mem_finRange i)
    exact absurd (by simpa using hnumber) (List.find?_eq_none.mp (Option.map_eq_none_iff.mp hnone) k hmem)
  | some x =>
    obtain ⟨hc, hn⟩ := findCommand_some (i := x.1) (k := x.2) hfound
    obtain ⟨hi, hk⟩ := hone x.1 x.2 hc hn
    exact congrArg some (Prod.ext hi hk)

theorem without_eq (n : Half) (e : Entry) :
    e.without n = { e with commands := e.commands.filter fun c => decide (c.number ≠ n) } := by
  refine congrArg (fun cs => { e with commands := cs }) (List.filter_congr fun c _ => ?_)
  simp [bne, BEq.beq]

/-! ### SEND (R89) -/

section
variable {car : CarNumber} {kind : Byte} {payload : List Byte} {expiry : Half} {flag : Byte}

theorem decideSend_range (h : car = 0 ∨ 60 < kind.toNat ∨ (flag ≠ 0 ∧ flag ≠ 1)) :
    decideSend car kind payload expiry flag s = .refuse .badValue := if_pos h

/-- SEND with its operands in range goes by the car's entry. -/
theorem decideSend_inRange (hcar : car ≠ 0) (hkind : kind.toNat ≤ 60) (hflag : flag = 0 ∨ flag = 1) :
    decideSend car kind payload expiry flag s =
      match s.findCar car with
      | none => .refuse .unknownCar
      | some i =>
        if (s.entry i).state = .pending then .refuse .unknownCar
        else if (s.entry i).state = .moving ∨ (s.entry i).state = .arriving then .refuse .moving
        else if codeBytes s.image.round.pd < payload.length then .refuse .tooLong
        else if 64 ≤ s.poolCount then .refuse .poolFull
        else if 8 ≤ (s.entry i).commands.length then .refuse .carFull
        else
          { status := .ok, body := halfBytes s.newCommandNumber
            effect := addCommand i (newCommand s.newCommandNumber kind payload expiry flag) } := by
  refine (if_neg ?_).trans rfl
  rintro (h | h | ⟨h0, h1⟩)
  · exact hcar h
  · omega
  · exact hflag.elim h0 h1

end

/-- What a SEND that is accepted does, its number given. -/
theorem addCommand_eq (i : Index) (k : Command) (s : State) :
    addCommand i k s = { s.setEntry i { s.entry i with commands := (s.entry i).commands ++ [k] } with
      engine := s.engine.forgetSent k.number
      nextCommand := if k.number = 0xFFFF#16 then 1 else k.number + 1 } :=
  congrArg (fun n => { s.setEntry i { s.entry i with commands := (s.entry i).commands ++ [k] } with
    engine := s.engine.forgetSent k.number, nextCommand := n }) ofNat_numberAfter_half

/-- The number that SEND gives, as R90 describes it. -/
theorem newCommandNumber_first (hnext : 1 ≤ s.nextCommand.toNat) (hpool : s.poolCount < 64) :
    ∃ (n : Half) (d : Nat), s.newCommandNumber = n.toNat ∧ n ≠ 0 ∧ n.toNat = numberAt 65535 s.nextCommand.toNat d ∧
      (∀ j : Index, ∀ k ∈ (s.entry j).commands, k.number ≠ n) ∧
      ∀ c, c < d → ∃ j : Index, ∃ k ∈ (s.entry j).commands, k.number.toNat = numberAt 65535 s.nextCommand.toNat c := by
  have hne : s.nextCommand ≠ 0 := fun h => absurd (congrArg BitVec.toNat h) (by simp; omega)
  obtain ⟨hlow, hhigh, hunused⟩ := newCommandNumber_spec hne hpool
  have htop := (nextCommand_range hne).2
  obtain ⟨d, heq, hbefore⟩ := firstUnused_first (top := 65535) (tries := 65) (used := s.commandNumbers) hnext htop
  have hn : (BitVec.ofNat 16 s.newCommandNumber).toNat = s.newCommandNumber := by
    rw [BitVec.toNat_ofNat, Nat.mod_eq_of_lt (by omega)]
  refine ⟨BitVec.ofNat 16 s.newCommandNumber, d, hn.symm, ?_, hn.trans heq, ?_, fun c hc => mem_commandNumbers_iff.mp (hbefore c hc)⟩
  · intro h0
    rw [h0] at hn
    exact absurd hn (by simp; omega)
  · intro j k hk heq'
    exact hunused j k hk (by rw [heq', hn])

theorem newBroadcastId_first (hnext : s.nextBroadcast ≠ 0) (hroom : s.broadcasts.length < 4) :
    ∃ (n : Byte) (d : Nat), byteOf s.newBroadcastId = n ∧ n ≠ 0 ∧ n.toNat = numberAt 255 s.nextBroadcast.toNat d ∧
      (∀ b ∈ s.broadcasts, b.id ≠ n) ∧ ∀ c, c < d → ∃ b ∈ s.broadcasts, b.id.toNat = numberAt 255 s.nextBroadcast.toNat c := by
  obtain ⟨hlow, hhigh, hunused⟩ := newBroadcastId_spec hnext (by omega)
  obtain ⟨hnext1, hnext2⟩ := nextBroadcast_range hnext
  obtain ⟨d, heq, hbefore⟩ := firstUnused_first (top := 255) (tries := 5) (used := s.broadcasts.map fun b => b.id.toNat) hnext1 hnext2
  have hn : (byteOf s.newBroadcastId).toNat = s.newBroadcastId := by
    rw [byteOf, BitVec.toNat_ofNat, Nat.mod_eq_of_lt (by omega)]
  refine ⟨byteOf s.newBroadcastId, d, rfl, ?_, hn.trans heq, ?_, fun c hc => List.mem_map.mp (hbefore c hc)⟩
  · intro h0
    rw [h0] at hn
    exact absurd hn (by simp; omega)
  · intro b hb heq'
    exact hunused b hb (by rw [heq', hn])

/-! ### BROADCAST (R102) -/

theorem decideBroadcast_range {payload : List Byte} {repeats urgent : Byte}
    (h : payload = [] ∨ 12 < payload.length ∨ (urgent ≠ 0 ∧ urgent ≠ 1)) :
    decideBroadcast payload repeats urgent s = .refuse .badValue :=
  if_pos (h.imp_left List.length_eq_zero_iff.mpr)

theorem decideBroadcast_inRange {payload : List Byte} {repeats urgent : Byte} (hsome : payload ≠ []) (hlen : payload.length ≤ 12)
    (hurgent : urgent = 0 ∨ urgent = 1) :
    decideBroadcast payload repeats urgent s =
      if 4 ≤ s.broadcasts.length then .refuse .queueFull
      else
        { status := .ok, body := [byteOf s.newBroadcastId]
          effect := addBroadcast
            { id := byteOf s.newBroadcastId, payload := payload, repeats := min (max repeats.toNat 1) 8 } (urgent == 1) } := by
  refine (if_neg ?_).trans rfl
  rintro (h | h | ⟨h0, h1⟩)
  · exact hsome (List.length_eq_zero_iff.mp h)
  · omega
  · exact hurgent.elim h0 h1

theorem addBroadcast_eq (b : Broadcast) {urgent : Byte} :
    addBroadcast b (urgent == 1) s = { s with
      broadcasts := if urgent = 1 then b :: s.broadcasts else s.broadcasts ++ [b]
      nextBroadcast := if b.id = 0xFF#8 then 1 else b.id + 1 } := by
  unfold addBroadcast
  rw [byteOf_numberAfter]
  by_cases h : urgent = 1 <;> simp [h]

end

/-- Settles O52: each request by the line of its table, with the number given the first unused. -/
theorem poolRequestsDecided : Obligations.PoolRequestsDecided := by
  refine ⟨?_, ?_, ?_⟩
  · intro tag car kind payload expiry flag s c hs
    have refused {x : Status} (hd : decideSend car kind payload expiry flag s = .refuse x) : exec c s = .next (s.answered c x []) :=
      onRequest_refuse (d := decideSend car kind payload expiry flag) hs hd
    refine ⟨fun h => refused (decideSend_range h), fun hcar hkind hflag => ?_⟩
    have hd := decideSend_inRange (s := s) (payload := payload) (expiry := expiry) hcar hkind hflag
    refine ⟨fun hnone => refused (by rw [hd, hnone]), fun i hi => ?_⟩
    simp only [hi] at hd
    refine ⟨fun hp => refused (hd.trans (if_pos hp)), fun hm => refused ?_, fun hst => ?_⟩
    · rw [hd, if_neg (by rcases hm with hm | hm <;> rw [hm] <;> decide), if_pos hm]
    rw [if_neg (by rcases hst with h | h | h <;> rw [h] <;> decide), if_neg (by rcases hst with h | h | h <;> rw [h] <;> decide)] at hd
    refine ⟨fun hlong => refused (hd.trans (if_pos hlong)), fun hlen hpool => ?_, fun hlen hpool hlist => ?_,
      fun hlen hpool hlist hnext => ?_⟩
    all_goals rw [if_neg (Nat.not_lt.mpr hlen)] at hd
    · exact refused (hd.trans (if_pos hpool))
    · rw [if_neg (Nat.not_le.mpr hpool)] at hd
      exact refused (hd.trans (if_pos hlist))
    · rw [if_neg (Nat.not_le.mpr hpool), if_neg (Nat.not_le.mpr hlist)] at hd
      obtain ⟨n, d, heq, hne, hplace, hunused, hbefore⟩ := newCommandNumber_first hnext hpool
      refine ⟨n, d, hne, hplace, hunused, hbefore, ?_⟩
      have hk : newCommand s.newCommandNumber kind payload expiry flag =
          { number := n, kind := kind, payload := payload, expiry := expiry.toNat, age := 0, attempts := 0, seqUsed := none, sent := false,
            notify := flag == 1 } := by
        rw [heq, newCommand, BitVec.ofNat_toNat, BitVec.setWidth_eq]
      rw [hk, heq] at hd
      exact (onRequest_decided (d := decideSend car kind payload expiry flag) hs hd).trans (congrArg _ (addCommand_eq i _ _))
  · intro tag n s hs
    refine ⟨fun hnone => onRequest_refuse (d := decideWithdraw n) hs (by rw [decideWithdraw, findCommand_none hnone]),
      fun i k hmem hnumber hone => ?_⟩
    have hd : decideWithdraw n s =
        { status := if k.sent then .sentOnce else .ok, body := [], effect := fun t => t.updateEntry i (Entry.without n) } := by
      rw [decideWithdraw, findCommand_unique hmem hnumber hone]
    exact (onRequest_decided (d := decideWithdraw n) hs hd).trans (congrArg (fun e => Host.Outcome.next (State.setEntry _ i e)) (without_eq n _))
  · intro tag payload repeats urgent s c hs
    refine ⟨fun h => onRequest_refuse (d := decideBroadcast payload repeats urgent) hs (decideBroadcast_range h), fun hsome hlen hurgent => ?_⟩
    have hd := decideBroadcast_inRange (s := s) (repeats := repeats) hsome hlen hurgent
    refine ⟨fun hfull => onRequest_refuse (d := decideBroadcast payload repeats urgent) hs (hd.trans (if_pos hfull)), fun hroom hnext => ?_⟩
    rw [if_neg (Nat.not_le.mpr hroom)] at hd
    obtain ⟨n, d, heq, hne, hplace, hunused, hbefore⟩ := newBroadcastId_first hnext hroom
    rw [heq] at hd
    exact ⟨n, d, hne, hplace, hunused, hbefore, (onRequest_decided (d := decideBroadcast payload repeats urgent) hs hd).trans
      (congrArg _ (addBroadcast_eq _))⟩

end Sys2Proof.Proofs
end

section
/-!
PROOFS. The requests on the receive queues and the counters: TAKE, PEEK, FLUSH, SURVEY and CLEAR_COUNTS (4.5, 9.2, 9.3).
-/
namespace Sys2Proof.Proofs
open Sys2Proof.Machine

section
variable {s : State} {q : Fin 4}

/-! ### The records a TAKE returns (R83) -/

/-- The bytes of some records in a reply. -/
def recordsSize (rs : List Record) : Nat := (rs.map fun r => 16 + r.payload.length).sum

theorem recordsSize_cons (r : Record) (rs : List Record) : recordsSize (r :: rs) = r.size + recordsSize rs := by
  simp [recordsSize, Record.size]

/-- What fits is as many records from the head as the limit, the queue and the room allow. -/
theorem fitting_take {rs : List Record} : ∀ {room limit n : Nat}, n ≤ limit → n ≤ rs.length → recordsSize (rs.take n) ≤ room →
    (n = limit ∨ n = rs.length ∨ room < recordsSize (rs.take (n + 1))) → fitting room (rs.take limit) = rs.take n := by
  induction rs with
  | nil => intro room limit n _ _ _ _; simp [fitting]
  | cons r rs ih =>
    intro room limit n hlimit hlen hfits hmost
    cases limit with
    | zero =>
      obtain rfl : n = 0 := by omega
      rfl
    | succ limit =>
      cases n with
      | zero =>
        have hbig : room < r.size := by
          rcases hmost with h | h | h
          · cases h
          · cases h
          · simpa [recordsSize, Record.size] using h
        simp [fitting, Nat.not_le.mpr hbig]
      | succ n =>
        simp only [List.take_succ_cons, recordsSize_cons] at hfits hmost ⊢
        rw [fitting, if_pos (by omega), ih (n := n) (by omega) (by simpa using hlen) (by omega)]
        rcases hmost with h | h | h
        · exact .inl (by omega)
        · exact .inr (.inl (by simpa using h))
        · exact .inr (.inr (by omega))

/-! ### A request that names a queue -/

theorem forQueue_of (d : Fin 4 → State → Decision) : forQueue (byteOf q.val) d s = d q s := by
  have hq : (byteOf q.val).toNat = q.val := by simp [byteOf]; omega
  unfold forQueue
  rw [dif_pos (by omega)]
  exact congrArg (fun r => d r s) (Fin.ext hq)

theorem forQueue_not {queue : Byte} (d : Fin 4 → State → Decision) (h : 4 ≤ queue.toNat) : forQueue queue d s = .refuse .badValue :=
  dif_neg (by omega)

theorem decideTake_empty {count : Byte} (h : (s.rx q).records = []) :
    decideTake count q s = .answer .empty [byteOf q.val, 0, byteOf (s.rx q).lost, 0] := if_pos h

theorem decideTake_some {count : Byte} (h : (s.rx q).records ≠ []) :
    decideTake count q s =
      { status := .ok
        body := queueReply q ((s.rx q).records.length - ((s.rx q).taken count.toNat).length) (s.rx q).lost ((s.rx q).taken count.toNat)
        effect := dropRecords q ((s.rx q).taken count.toNat).length } := if_neg h

theorem decidePeek_empty (h : (s.rx q).records = []) :
    decidePeek q s = .answer .empty [byteOf q.val, 0, byteOf (s.rx q).lost, 0] := by
  simp only [decidePeek, h]
  rfl

theorem decidePeek_some {r : Record} {rs : List Record} (h : (s.rx q).records = r :: rs) :
    decidePeek q s = .answer .ok ([byteOf q.val, byteOf (s.rx q).records.length, byteOf (s.rx q).lost, 1] ++ r.bytes q) := by
  simp only [decidePeek, h, queueReply, List.length_cons, List.flatMap_cons, List.flatMap_nil, List.append_nil]
  rfl

/-- What the removal of the first records leaves of the queue (R82, R83). -/
theorem dropRecords_eq (n : Nat) (s : State) (q : Fin 4) : dropRecords q n s = s.setRx q
    { records := (s.rx q).records.drop n, lost := (s.rx q).lost
      episode := (s.rx q).episode && decide ((s.queueSetting q).depth ≤ (s.rx q).records.length - n) } := by
  refine congrArg (fun b => s.setRx q { records := (s.rx q).records.drop n, lost := (s.rx q).lost, episode := (s.rx q).episode && b }) ?_
  simp [decide_not.symm]

/-! ### SURVEY and CLEAR_COUNTS (R152, R154) -/

theorem decideSurvey_range {car : CarNumber} {value : Byte} (h : car = 0 ∨ (value ≠ 0 ∧ value ≠ 1)) :
    decideSurvey car value s = .refuse .badValue := if_pos h

theorem decideSurvey_inRange {car : CarNumber} {value : Byte} (hcar : car ≠ 0) (hvalue : value = 0 ∨ value = 1) :
    decideSurvey car value s =
      match s.findCar car with
      | none => .refuse .badState
      | some i =>
        if (s.entry i).state = .active then .accept fun t => t.updateEntry i fun e => { e with survey := value == 1 }
        else .refuse .badState := by
  refine (if_neg ?_).trans rfl
  rintro (h | ⟨h0, h1⟩)
  · exact hcar h
  · exact hvalue.elim h0 h1

theorem decideClearCounts_entry (i : Index) :
    decideClearCounts 1 (byteOf i.val) s = .accept fun t => t.updateEntry i Entry.clearCounts := by
  have hi : (byteOf i.val).toNat = i.val := toNat_byteOf_index i
  simp only [decideClearCounts, hi, i.isLt, dif_pos]
  rfl

theorem decideClearCounts_not {scope index : Byte} (h : 3 ≤ scope.toNat ∨ (scope = 1 ∧ 24 ≤ index.toNat)) :
    decideClearCounts scope index s = .refuse .badValue := by
  rcases h with h | ⟨rfl, h⟩
  · have hne (n : Byte) (hn : n.toNat < 3) : scope ≠ n := by rintro rfl; omega
    simp only [decideClearCounts, if_neg (hne 0 (by decide)), if_neg (hne 1 (by decide)), if_neg (hne 2 (by decide))]
  · simp only [decideClearCounts, dif_neg (Nat.not_lt.mpr h)]
    rfl

end

/-- Settles O53: each request by its table, TAKE with as many records as its count, the queue and the reply allow. -/
theorem queueSurveyAndClearRequests : Obligations.QueueSurveyAndClearRequests := by
  refine ⟨?_, ?_, ?_, ?_⟩
  · exact fun tag queue count s h => ⟨fun hs => onRequest_refuse (d := forQueue queue (decideTake count)) hs (forQueue_not _ h),
      fun hs => onRequest_refuse (d := forQueue queue decidePeek) hs (forQueue_not _ h),
      fun hs => onRequest_refuse (d := forQueue queue decideFlush) hs (forQueue_not _ h)⟩
  · intro tag count q s x queue
    refine ⟨fun hs => ⟨fun hempty => ?_, fun n hpos hlen hcount hroom hmost => ?_⟩, fun hs => ⟨fun hempty => ?_, fun r rs hrs => ?_⟩,
      fun hs => ?_⟩
    · exact onRequest_answer (d := forQueue queue (decideTake count)) hs ((forQueue_of _).trans (decideTake_empty hempty))
    · have htaken : x.taken count.toNat = x.records.take n := fitting_take hcount hlen hroom hmost
      have hsome : x.records ≠ [] := List.ne_nil_of_length_pos (by omega)
      have hn : (x.records.take n).length = n := List.length_take_of_le hlen
      have hd := (forQueue_of (s := s) (q := q) (decideTake count)).trans (decideTake_some hsome)
      rw [show s.rx q = x from rfl, htaken, hn, queueReply, hn] at hd
      exact (onRequest_decided (d := forQueue queue (decideTake count)) hs hd).trans (congrArg _ (dropRecords_eq n _ q))
    · exact onRequest_answer (d := forQueue queue decidePeek) hs ((forQueue_of _).trans (decidePeek_empty hempty))
    · exact onRequest_answer (d := forQueue queue decidePeek) hs ((forQueue_of _).trans (decidePeek_some hrs))
    · exact onRequest_decided (d := forQueue queue decideFlush) hs (forQueue_of _)
  · intro tag car value s c hs
    have refused {x : Status} (hd : decideSurvey car value s = .refuse x) : exec c s = .next (s.answered c x []) :=
      onRequest_refuse (d := decideSurvey car value) hs hd
    refine ⟨fun h => refused (decideSurvey_range h), fun hcar hvalue => ?_⟩
    have hd := decideSurvey_inRange (s := s) hcar hvalue
    refine ⟨fun hnone => refused (by rw [hd, hnone]), fun i hi => ?_⟩
    simp only [hi] at hd
    exact ⟨fun hst => refused (hd.trans (if_neg hst)),
      fun hst => onRequest_accept (d := decideSurvey car value) hs (hd.trans (if_pos hst))⟩
  · intro tag scope index s c hs cleared
    refine ⟨fun h => ?_, fun i hscope hindex => ?_, fun h => ?_, fun h => ?_⟩
    · subst h
      exact onRequest_accept (d := decideClearCounts 0 index) hs rfl
    · subst hscope hindex
      exact onRequest_accept (d := decideClearCounts 1 (byteOf i.val)) hs (decideClearCounts_entry i)
    · subst h
      exact ⟨_, onRequest_accept (d := decideClearCounts 2 index) hs rfl, rfl, fun i => entry_mapEntries _ _ i⟩
    · exact onRequest_refuse (d := decideClearCounts scope index) hs (decideClearCounts_not h)

end Sys2Proof.Proofs
end

section
/-!
PROOFS. Joins and admissions: the grant, the place a car is given, the decision of a join, and ADMIT, DENY and EVICT (2.3, 2.4, 2.7).
-/
namespace Sys2Proof.Proofs
open Sys2Proof.Machine

section
variable {s : State} {i : Index} {round : RoundNumber} {j : JoinBody}

/-! ### The grant and the place (R7, R36) -/

theorem request_le (requested : Code) : max requested.toNat 1 ≤ 15 := by
  have := requested.isLt
  omega

theorem grant_none {requested : Code} {cls : RateClass}
    (h : ∀ code : Code, 1 ≤ code.toNat → code.toNat ≤ max requested.toNat 1 → s.fitsOneMore code cls = false) :
    s.grant requested cls = none := grantFrom_none _ (request_le requested) h

theorem grant_some {requested code : Code} {cls : RateClass} (h1 : 1 ≤ code.toNat) (h2 : code.toNat ≤ max requested.toNat 1)
    (hfits : s.fitsOneMore code cls = true)
    (hmost : ∀ d : Code, code.toNat < d.toNat → d.toNat ≤ max requested.toNat 1 → s.fitsOneMore d cls = false) :
    s.grant requested cls = some code := grantFrom_some _ (request_le requested) code h1 h2 hfits hmost

theorem answerWaits_eq_false {car : CarNumber} : s.answerWaits car = false ↔ ∀ a ∈ s.answers, a.car ≠ car := by
  simp [State.answerWaits]

theorem answerWaits_eq_true {car : CarNumber} : s.answerWaits car = true ↔ ∃ a ∈ s.answers, a.car = car := by
  simp [State.answerWaits]

theorem placeAnswer_of_entry {e : Entry} (h : s.entry i = e) :
    s.placeAnswer i = { car := e.car, result := .place i e.granted e.rate } := by subst h; rfl

/-- A car admitted, its answer having room. -/
theorem admitAt_room {e : Entry} (hroom : s.answers.length < 8) (hwaits : s.answerWaits e.car = false) :
    admitAt i e s = { s.setEntry i e with
      order := s.order ++ [i], answers := s.answers ++ [{ car := e.car, result := .place i e.granted e.rate }] } := by
  have hplace := placeAnswer_of_entry (s := s.slotIn i e) (entry_setEntry_self s i e)
  simp only [admitAt, hplace]
  exact addAnswer_room hroom hwaits

/-! ### ADMIT, DENY, EVICT (R38, R39, R46) -/

theorem forCar_of {car : CarNumber} (d : State → Decision) (h : car ≠ 0) : forCar car d s = d s := if_neg h

theorem decideAdmit_known {car : CarNumber} (hi : s.findCar car = some i) :
    decideAdmit car s =
      if (s.entry i).state ≠ .pending then .refuse .badState
      else if 8 ≤ s.answers.length ∨ s.answerWaits car then .refuse .queueFull
      else match s.grant (s.entry i).requested (initialClass s.live.link (s.entry i).joinSample) with
        | none => .refuse .noAirtime
        | some code =>
          { status := .ok, body := [byteOf i.val, byteOf (initialClass s.live.link (s.entry i).joinSample).code, byteOf code.toNat]
            effect := admitAt i (admittedEntry car code (initialClass s.live.link (s.entry i).joinSample) (s.entry i).joinSample
              (s.entry i).lastHeard) } := by
  simp only [decideAdmit, hi]
  rfl

theorem decideDeny_known {car : CarNumber} {bar : Nat} (hi : s.findCar car = some i) :
    decideDeny car bar s = if (s.entry i).state ≠ .pending then .refuse .badState else .accept (denyEntry i car bar) := by
  simp only [decideDeny, hi]

theorem decideEvict_known {car : CarNumber} {bar : Nat} (hi : s.findCar car = some i) :
    decideEvict car bar s = .accept (evictEntry i car bar) := by
  simp only [decideEvict, hi]

theorem evictEntry_alone {car : CarNumber} {bar : Nat} (h1 : (s.entry i).state ≠ .offering) (h2 : (s.entry i).state ≠ .moving) :
    evictEntry i car bar s = addBar car bar (freeEntry i none .evicted s) :=
  congrArg (addBar car bar) (if_neg fun h => h.elim h1 h2)

theorem evictEntry_handover {car : CarNumber} {bar : Nat} (h : (s.entry i).state = .offering ∨ (s.entry i).state = .moving) :
    evictEntry i car bar s = addBar car bar (sendToPeer (s.entry i).peer (.cancel car) (freeEntry i none .evicted s)) :=
  congrArg (addBar car bar) (if_pos h)

end

/-- Settles O48: the first line of each table that applies, and the effect of the request accepted. -/
theorem admitDenyEvictDecided : Obligations.AdmitDenyEvictDecided := by
  refine ⟨?_, fun tag car bar s => ⟨?_, ?_⟩⟩
  · intro tag car s hs c
    have refused {x : Status} (hd : forCar car (decideAdmit car) s = .refuse x) : exec c s = .next (s.answered c x []) :=
      onRequest_refuse (d := forCar car (decideAdmit car)) hs hd
    refine ⟨fun h0 => refused (by rw [h0]; rfl), fun h0 hnone => refused ((forCar_of _ h0).trans (by rw [decideAdmit, hnone])), ?_⟩
    intro i h0 hi e cls
    have hd := (forCar_of (s := s) (decideAdmit car) h0).trans (decideAdmit_known hi)
    refine ⟨fun hst => refused (hd.trans (if_pos hst)), fun hst hfull => ?_, fun hst hroom hwaits => ⟨fun hnone => ?_,
      fun code h1 h2 hfits hmost => ?_⟩⟩
    all_goals rw [if_neg (not_not.mpr hst)] at hd
    · exact refused (hd.trans (if_pos hfull))
    all_goals rw [if_neg (show ¬ (8 ≤ s.answers.length ∨ s.answerWaits car = true) by simp [hwaits, hroom])] at hd
    · rw [grant_none (cls := initialClass s.live.link (s.entry i).joinSample) hnone] at hd
      exact refused hd
    · rw [grant_some (cls := initialClass s.live.link (s.entry i).joinSample) h1 h2 hfits hmost] at hd
      exact (onRequest_decided (d := forCar car (decideAdmit car)) hs hd).trans (congrArg _ (admitAt_room hroom hwaits))
  · intro hs c
    have refused {x : Status} (hd : forCar car (decideDeny car bar.toNat) s = .refuse x) : exec c s = .next (s.answered c x []) :=
      onRequest_refuse (d := forCar car (decideDeny car bar.toNat)) hs hd
    refine ⟨fun h0 => refused (by rw [h0]; rfl), fun h0 hnone => refused ((forCar_of _ h0).trans (by rw [decideDeny, hnone])),
      fun i h0 hi => ?_⟩
    have hd := (forCar_of (s := s) (decideDeny car bar.toNat) h0).trans (decideDeny_known hi)
    exact ⟨fun hst => refused (hd.trans (if_pos hst)),
      fun hst => onRequest_accept (d := forCar car (decideDeny car bar.toNat)) hs (hd.trans (if_neg (not_not.mpr hst)))⟩
  · intro hs c
    have refused {x : Status} (hd : forCar car (decideEvict car bar.toNat) s = .refuse x) : exec c s = .next (s.answered c x []) :=
      onRequest_refuse (d := forCar car (decideEvict car bar.toNat)) hs hd
    refine ⟨fun h0 => refused (by rw [h0]; rfl), fun h0 hnone => refused ((forCar_of _ h0).trans (by rw [decideEvict, hnone])),
      fun i h0 hi => ?_⟩
    have hexec := onRequest_accept (d := forCar car (decideEvict car bar.toNat)) hs ((forCar_of _ h0).trans (decideEvict_known hi))
    exact ⟨fun h1 h2 => hexec.trans (congrArg _ (evictEntry_alone h1 h2)), fun h => hexec.trans (congrArg _ (evictEntry_handover h))⟩

section
variable {s : State} {i : Index} {round : RoundNumber} {j : JoinBody}

/-! ### A join decided (R33 to R37) -/

theorem decideJoin_barred (h : ∃ b ∈ s.bars, b.car = j.car) :
    decideJoin round j s = s.countWith fun c => { c with joinsBarred := count16 c.joinsBarred } :=
  if_pos (by simpa using h)

/-- A join from a car that is not barred goes by the answer list, then by the roster. -/
theorem decideJoin_open (h : ∀ b ∈ s.bars, b.car ≠ j.car) :
    decideJoin round j s =
      if s.answerWaits j.car then s
      else if 8 ≤ s.answers.length then s.countWith fun c => { c with joinsDropped := count16 c.joinsDropped }
      else match s.findCar j.car with
        | some i => joinKnown round i s
        | none => joinNew round j s :=
  (if_neg (by simpa using h)).trans rfl

theorem decideJoin_waits (h : ∀ b ∈ s.bars, b.car ≠ j.car) (ha : ∃ a ∈ s.answers, a.car = j.car) : decideJoin round j s = s :=
  (decideJoin_open h).trans (if_pos (answerWaits_eq_true.mpr ha))

theorem decideJoin_full (h : ∀ b ∈ s.bars, b.car ≠ j.car) (ha : ∀ a ∈ s.answers, a.car ≠ j.car) (hfull : 8 ≤ s.answers.length) :
    decideJoin round j s = s.countWith fun c => { c with joinsDropped := count16 c.joinsDropped } := by
  rw [decideJoin_open h, if_neg (by rw [answerWaits_eq_false.mpr ha]; decide), if_pos hfull]

theorem decideJoin_decided (h : ∀ b ∈ s.bars, b.car ≠ j.car) (ha : ∀ a ∈ s.answers, a.car ≠ j.car) (hroom : s.answers.length < 8) :
    decideJoin round j s = match s.findCar j.car with
      | some i => joinKnown round i s
      | none => joinNew round j s := by
  rw [decideJoin_open h, if_neg (by rw [answerWaits_eq_false.mpr ha]; decide), if_neg (Nat.not_le.mpr hroom)]

/-! #### A car not on the roster (R36, R37) -/

theorem joinNew_noRoom (hfree : s.firstFree = none) (hroom : s.answers.length < 8) (hwaits : s.answerWaits j.car = false) :
    joinNew round j s = { s with answers := s.answers ++ [{ car := j.car, result := .denial .noRoom }] } := by
  unfold joinNew
  split
  · simp only [autoAdmit, hfree]
    exact addAnswer_room hroom hwaits
  · simp only [askConfirm, hfree]
    exact addAnswer_room hroom hwaits

theorem joinNew_auto (hauto : s.live.roster.admission = .auto) (hi : s.firstFree = some i) :
    joinNew round j s = match s.grant j.requested (initialClass s.live.link (joinSampleOf j.margin)) with
      | none => addAnswer { car := j.car, result := .denial .noAirtime } s
      | some code => admitAt i
          (admittedEntry j.car code (initialClass s.live.link (joinSampleOf j.margin)) (joinSampleOf j.margin) round) s := by
  simp only [joinNew, hauto, autoAdmit, hi] <;> rfl

theorem joinNew_confirm (hconfirm : s.live.roster.admission = .confirm) (hi : s.firstFree = some i) :
    joinNew round j s = notify (.joinAsked j.car i j.requested (joinSampleOf j.margin) j.carType j.build)
      (s.setEntry i { Entry.vacant with
        state := .pending, car := j.car, requested := j.requested, joinSample := joinSampleOf j.margin
        confirmTimer := s.live.roster.confirmTimeout, lastHeard := round }) := by
  simp only [joinNew, hconfirm, askConfirm, hi]

/-! #### A car on the roster (R34, R35) -/

/-- An entry written and its place answered, the answer list having room. -/
theorem answerPlace_room {e : Entry} (hroom : s.answers.length < 8) (hwaits : s.answerWaits e.car = false) :
    addAnswer ((s.setEntry i e).placeAnswer i) (s.setEntry i e) =
      { s.setEntry i e with answers := s.answers ++ [{ car := e.car, result := .place i e.granted e.rate }] } := by
  rw [placeAnswer_of_entry (entry_setEntry_self s i e)]
  exact addAnswer_room hroom hwaits

theorem joinKnown_pending (h : (s.entry i).state = .pending) :
    joinKnown round i s = s.setEntry i { s.entry i with lastHeard := round } := by
  have hstep : joinKnown round i s = s.updateEntry i fun e => { e with lastHeard := round } := by simp only [joinKnown, h]
  exact hstep

theorem joinKnown_arriving (h : (s.entry i).state = .arriving) (hroom : s.answers.length < 8)
    (hwaits : s.answerWaits (s.entry i).car = false) :
    joinKnown round i s = { s.setEntry i { s.entry i with lastHeard := round } with
      answers := s.answers ++ [{ car := (s.entry i).car, result := .place i (s.entry i).granted (s.entry i).rate }] } := by
  have hstep : joinKnown round i s = (fun t => addAnswer (t.placeAnswer i) t) (s.updateEntry i fun e => { e with lastHeard := round }) := by
    simp only [joinKnown, h]
  exact hstep.trans <| answerPlace_room (e := { s.entry i with lastHeard := round }) hroom hwaits

theorem resyncAt_room (hroom : s.answers.length < 8) (hwaits : s.answerWaits (s.entry i).car = false) :
    resyncAt round i s = { s.setEntry i ((s.entry i).resync round) with
      answers := s.answers ++ [{ car := (s.entry i).car, result := .place i (s.entry i).granted (s.entry i).rate }] } :=
  answerPlace_room (e := (s.entry i).resync round) hroom hwaits

theorem joinKnown_resync (h : (s.entry i).state = .joining ∨ (s.entry i).state = .active) :
    joinKnown round i s = resyncAt round i s := by
  rcases h with h | h <;> simp only [joinKnown, h]

theorem joinKnown_handover (h : (s.entry i).state = .offering ∨ (s.entry i).state = .moving) :
    joinKnown round i s = abandonHandover round i s := by
  rcases h with h | h <;> simp only [joinKnown, h]

theorem abandonHandover_room (hroom : s.answers.length < 8) (hwaits : s.answerWaits (s.entry i).car = false) :
    abandonHandover round i s =
      { (sendToPeer (s.entry i).peer (.cancel (s.entry i).car) s).setEntry i ((s.entry i).resync round) with
        answers := s.answers ++ [{ car := (s.entry i).car, result := .place i (s.entry i).granted (s.entry i).rate }] } := by
  have hentry := entry_sendToPeer s (s.entry i).peer (.cancel (s.entry i).car) i
  have hanswers := sendToPeer_answers s (s.entry i).peer (.cancel (s.entry i).car)
  have h := resyncAt_room (round := round) (s := sendToPeer (s.entry i).peer (.cancel (s.entry i).car) s) (i := i)
    (by rw [hanswers]; exact hroom) (by rw [State.answerWaits, hanswers, hentry]; exact hwaits)
  rwa [hentry, hanswers] at h

/-! ### The close of a join window (R25, R32) -/

theorem closeJoinAt_closed {ago : Fin 3} {k : Fin 4} {r : JoinResult} (h : k ∉ (s.engine.planOf ago).joins) :
    closeJoinAt ago k r s = s := if_neg h

theorem closeJoinAt_open {ago : Fin 3} {k : Fin 4} {r : JoinResult} (h : k ∈ (s.engine.planOf ago).joins) :
    closeJoinAt ago k r s = joinResult (s.engine.planOf ago).round r
      (s.withPlanOf ago { s.engine.planOf ago with joins := (s.engine.planOf ago).joins.erase k }) := if_pos h

theorem joinResult_unread {bytes : List Byte} (h : JoinBody.read bytes = none) :
    joinResult round (.passed bytes) s = s.countWith fun c => { c with joinCollisions := count16 c.joinCollisions } := by
  simp only [joinResult, h]

theorem joinResult_read {bytes : List Byte} (h : JoinBody.read bytes = some j) :
    joinResult round (.passed bytes) s = decideJoin round j (s.countWith fun c => { c with joinBursts := count16 c.joinBursts }) := by
  simp only [joinResult, h]

end

/-- A quiescent state closes a join window that is open by what the modem made of it. -/
theorem exec_joinWindowClose {s : State} {ago : Fin 3} {k : Fin 4} {r : JoinResult} (hs : s.Quiescent)
    (hk : k ∈ (s.engine.planOf ago).joins) :
    exec (.joinWindowClose ago k r) s = .next (joinResult (s.engine.planOf ago).round r
      (s.withPlanOf ago { s.engine.planOf ago with joins := (s.engine.planOf ago).joins.erase k })) :=
  (onEvent_of_quiescent (closeJoinAt ago k r) hs).trans (congrArg _ (closeJoinAt_open hk))

/-- Settles O47: the result sorted, then the join decided by the first line of R33 that applies. -/
theorem joinWindowDecided : Obligations.JoinWindowDecided := by
  refine ⟨?_, ?_⟩
  · intro ago k s hs shut
    refine ⟨fun hk r => (onEvent_of_quiescent (closeJoinAt ago k r) hs).trans (congrArg _ (closeJoinAt_closed hk)), fun hk => ?_⟩
    have hexec (r : JoinResult) : exec (.joinWindowClose ago k r) s = .next (joinResult _ r shut) := exec_joinWindowClose hs hk
    refine ⟨hexec .nothing, hexec .undecodable, fun bytes => ⟨fun hread => (hexec _).trans (congrArg _ (joinResult_unread hread)),
      fun j hj => ?_⟩⟩
    have hread := (hexec (.passed bytes)).trans (congrArg _ (joinResult_read hj))
    exact ⟨fun hbar => hread.trans (congrArg _ (decideJoin_barred hbar)), fun hbar =>
      ⟨fun hanswer => hread.trans (congrArg _ (decideJoin_waits hbar hanswer)),
        fun hanswer hfull => hread.trans (congrArg _ (decideJoin_full hbar hanswer hfull))⟩⟩
  · intro ago k bytes j s hs hk hj hbars hanswers hroom base c round sample cls
    have hbase : exec c s = .next (decideJoin round j base) := (exec_joinWindowClose hs hk).trans (congrArg _ (joinResult_read hj))
    have hdecided : exec c s = .next (match s.findCar j.car with
        | some i => joinKnown round i base
        | none => joinNew round j base) := hbase.trans (congrArg _ (decideJoin_decided hbars hanswers hroom))
    have hwaits : base.answerWaits j.car = false := answerWaits_eq_false.mpr hanswers
    refine ⟨fun hnone hfree => ?_, fun i hnone hi => ?_, fun i hi => ?_⟩
    · rw [hnone] at hdecided
      exact hdecided.trans (congrArg _ (joinNew_noRoom hfree hroom hwaits))
    · rw [hnone] at hdecided
      refine ⟨fun hauto => ?_, fun hconfirm => hdecided.trans (congrArg _ (joinNew_confirm hconfirm hi))⟩
      have hnew := hdecided.trans (congrArg _ (joinNew_auto (s := base) (round := round) hauto hi))
      refine ⟨fun hfits => ?_, fun code h1 h2 hfits hmost => ?_⟩
      · rw [grant_none (s := base) (cls := initialClass base.live.link (joinSampleOf j.margin)) hfits] at hnew
        exact hnew.trans (congrArg _ (addAnswer_room hroom hwaits))
      · rw [grant_some (s := base) (cls := initialClass base.live.link (joinSampleOf j.margin)) h1 h2 hfits hmost] at hnew
        exact hnew.trans (congrArg _ (admitAt_room hroom hwaits))
    · rw [hi] at hdecided
      have hcar : base.answerWaits (base.entry i).car = false := by rw [show (base.entry i).car = j.car from (findCar_some hi).2]; exact hwaits
      exact ⟨fun h => hdecided.trans (congrArg _ (joinKnown_pending h)),
        fun h => hdecided.trans (congrArg _ (joinKnown_arriving h hroom hcar)),
        fun h => hdecided.trans (congrArg _ ((joinKnown_resync (s := base) h).trans (resyncAt_room hroom hcar))),
        fun h => hdecided.trans (congrArg _ ((joinKnown_handover (s := base) h).trans (abandonHandover_room hroom hcar)))⟩

end Sys2Proof.Proofs
end

section
/-!
PROOFS. The rows of a round start taken by themselves: the expiry of a timer, of a bar and of a command, and BROADCAST_DONE (log 10).
-/
namespace Sys2Proof.Proofs
open Sys2Proof.Machine

section
variable {s : State} {i : Index}

/-- A row whose timer runs out at the round start that is due has its effect. -/
theorem row_runs {runsOut : State → Bool} {f : State → State} (hs : s.StartsRound) (h : runsOut s = true) :
    onRoundStart (whenDue runsOut f) s = .next (f s) := by
  rw [onRoundStart_of_not_spent _ hs.running hs.noBroadcast, whenDue, hs.due, h]
  rfl

theorem row_rests {runsOut : State → Bool} {f : State → State} (hs : s.StartsRound) (h : runsOut s = false) :
    onRoundStart (whenDue runsOut f) s = .next s := by
  rw [onRoundStart_of_not_spent _ hs.running hs.noBroadcast, whenDue, h, Bool.and_false]
  rfl

/-! ### Timers (R40, R107) -/

theorem phaseRunsOut_of {e : Entry} {n : Nat} (hstate : e.state.inHandover = true) (ht : e.phaseTimer = some n) (hn : n ≤ 1) :
    e.phaseRunsOut = true := by
  simp [Entry.phaseRunsOut, hstate, ht, hn]

theorem phaseRunsOut_not {e : Entry} (h : ∀ n, e.phaseTimer = some n → 1 < n) : e.phaseRunsOut = false := by
  unfold Entry.phaseRunsOut
  cases ht : e.phaseTimer with
  | none => simp
  | some n => simp [h n ht]

theorem phaseDue_of {x : EntryState} {n : Nat} (hx : x.inHandover = true) (hstate : (s.entry i).state = x)
    (ht : (s.entry i).phaseTimer = some n) (hn : n ≤ 1) : phaseDue i x s = true := by
  simp [phaseDue, hstate, phaseRunsOut_of (hstate ▸ hx) ht hn]

theorem phaseDue_not {x : EntryState} (h : (s.entry i).state ≠ x ∨ ∀ n, (s.entry i).phaseTimer = some n → 1 < n) :
    phaseDue i x s = false := by
  rcases h with h | h
  · simp [phaseDue, h]
  · simp [phaseDue, phaseRunsOut_not h]

theorem confirmRunsOut_of {e : Entry} (hstate : e.state = .pending) (ht : e.confirmTimer ≤ 1) : e.confirmRunsOut = true := by
  simp [Entry.confirmRunsOut, hstate, ht]

theorem confirmRunsOut_not {e : Entry} (h : e.state ≠ .pending ∨ 1 < e.confirmTimer) : e.confirmRunsOut = false := by
  rcases h with h | h
  · simp [Entry.confirmRunsOut, h]
  · simp [Entry.confirmRunsOut, h]

/-! ### Bars (R47) -/

theorem barDue_of {car : CarNumber} (h : ∃ b ∈ s.bars, b.car = car ∧ b.rounds ≤ 1) : barDue car s = true := by
  obtain ⟨b, hb, hcar, hrounds⟩ := h
  exact List.any_eq_true.mpr ⟨b, hb, by simp [hcar, hrounds]⟩

theorem barDue_not {car : CarNumber} (h : ∀ b ∈ s.bars, b.car = car → 1 < b.rounds) : barDue car s = false := by
  refine List.any_eq_false.mpr fun b hb => ?_
  simpa using fun hcar => h b hb hcar

theorem removeBar_eq (car : CarNumber) (s : State) : removeBar car s = { s with bars := s.bars.filter fun b => decide (b.car ≠ car) } := by
  refine congrArg (fun bs => { s with bars := bs }) (List.filter_congr fun b _ => ?_)
  simp [bne, BEq.beq]

/-! ### Commands (R97) -/

theorem commandDue_none {n : Half} (h : s.findCommand n = none) : commandDue n s = false := by simp only [commandDue, h]

theorem commandDue_some {n : Half} {k : Command} (h : s.findCommand n = some (i, k)) :
    commandDue n s = (k.expiry != 0 && decide (k.expiry ≤ k.age + 1)
      && !((s.entry i).phaseRunsOut && ((s.entry i).state == .moving || (s.entry i).state == .arriving))) := by
  simp only [commandDue, h]

theorem expireCommand_some {n : Half} {k : Command} (h : s.findCommand n = some (i, k)) :
    expireCommand n s = notify (.expired n (s.entry i).car k.sent) (s.setEntry i
      { s.entry i with commands := (s.entry i).commands.filter fun c => decide (c.number ≠ n) }) := by
  have hstep : expireCommand n s = notify (.expired n (s.entry i).car k.sent) (s.updateEntry i (Entry.without n)) := by
    simp only [expireCommand, h]
  exact hstep.trans (congrArg (fun e => notify _ (s.setEntry i e)) (without_eq n _))

/-! ### BROADCAST_DONE (R103) -/

theorem exec_broadcastDone_spent {b : Broadcast} {bs : List Broadcast} (hr : s.inReset = false) (hb : s.broadcasts = b :: bs)
    (h0 : b.repeats = 0) : exec .broadcastDone s = .next (notify (.broadcastDone b.id) { s with broadcasts := bs }) := by
  have hrow : exec .broadcastDone s = .next (finishBroadcast s) := congrArg _ (if_neg (by rw [hr]; decide))
  rw [hrow, finishBroadcast_spent hb h0]

theorem exec_broadcastDone_not (hr : s.inReset = false) (h : s.broadcastSpent = false) : exec .broadcastDone s = .next s :=
  onRoundStart_of_not_spent id hr h

end

/-- Settles O33: each row has its effect when what it names runs out at the round start that is due, and none otherwise. -/
theorem roundStartRows : Obligations.RoundStartRows := by
  refine ⟨fun s hr => ⟨fun b bs hb h0 => exec_broadcastDone_spent hr hb h0, fun h => exec_broadcastDone_not hr (broadcastSpent_eq_false h)⟩,
    fun s hs => ⟨?_, fun car => ⟨fun h => ?_, fun h => row_rests hs (barDue_not h)⟩, fun n h => ?_, fun i k hmem hone => ?_,
      exec_broadcastDone_not hs.running hs.noBroadcast, fun b bs =>
        exec_broadcastDone_spent (s := { s with broadcasts := { b with repeats := 0 } :: bs }) (b := { b with repeats := 0 }) hs.running rfl rfl⟩⟩
  · intro i e
    exact ⟨fun n ht hn => ⟨fun h => row_runs hs (phaseDue_of rfl h ht hn), fun h => row_runs hs (phaseDue_of rfl h ht hn),
        fun h => row_runs hs (phaseDue_of rfl h ht hn)⟩,
      fun h ht => row_runs hs (confirmRunsOut_of h ht), fun h => row_rests hs (phaseDue_not h), fun h => row_rests hs (phaseDue_not h),
      fun h => row_rests hs (phaseDue_not h), fun h => row_rests hs (confirmRunsOut_not h)⟩
  · exact (row_runs hs (barDue_of h)).trans (congrArg _ (removeBar_eq car s))
  · exact row_rests hs (commandDue_none (findCommand_none h))
  · have hfound := findCommand_unique hmem rfl hone
    refine ⟨fun h0 hage hkept => ?_, fun h => row_rests hs ((commandDue_some hfound).trans ?_)⟩
    · refine (row_runs hs ((commandDue_some hfound).trans ?_)).trans (congrArg _ (expireCommand_some hfound))
      rcases hkept with h | ⟨h, h'⟩
      · simp [h0, hage, h]
      · simp [h0, hage, h, h']
    · rcases h with h | h
      · simp [h]
      · simp [h]

end Sys2Proof.Proofs
end

section
/-!
PROOFS. Editing entries one index after another, and the class changes of a round start (R8, R9).
-/
namespace Sys2Proof.Proofs
open Sys2Proof.Machine

section
variable {s t u : State} {i j : Index} {f : Index → State → State}

/-! ### Entries edited one after another -/

@[simp] theorem setEntry_entry (s : State) (i : Index) : s.setEntry i (s.entry i) = s := by simp [State.setEntry, State.entry]

/-- Nothing but entries and the control link has changed. -/
def EditsOnly (s t : State) : Prop := t = { s with roster := t.roster, control := t.control }

theorem EditsOnly.refl (s : State) : EditsOnly s s := rfl

theorem EditsOnly.trans (h : EditsOnly s t) (h' : EditsOnly t u) : EditsOnly s u := by
  rw [EditsOnly] at h
  rw [h] at h'
  exact h'

theorem editsOnly_notifyAll_setEntry (ns : List Notice) (i : Index) (e : Entry) (s : State) :
    EditsOnly s (notifyAll ns (s.setEntry i e)) := by rw [notifyAll_eq]; rfl

theorem entry_foldl_of_not_mem (h : ∀ (i j : Index) (t : State), j ≠ i → (f i t).entry j = t.entry j) {is : List Index} (hj : j ∉ is)
    (s : State) : (is.foldl (fun t i => f i t) s).entry j = s.entry j := by
  induction is generalizing s with
  | nil => rfl
  | cons i is ih =>
    obtain ⟨hji, hjis⟩ := not_or.mp (mt List.mem_cons.mpr hj)
    exact (ih hjis (f i s)).trans (h i j s hji)

/-- What an operation on each index of a list does when it writes one entry and sends notices: the edits and the notices together. -/
structure Edited (is : List Index) (g : Index → Entry) (ns : Index → List Notice) (s t : State) : Prop where
  frame : EditsOnly s t
  entry : ∀ j, t.entry j = if j ∈ is then g j else s.entry j
  control : t.control = (notifyAll (is.flatMap ns) s).control

theorem edited_foldl {g : Index → Entry} {ns : Index → List Notice} {is : List Index} (hnodup : is.Nodup) (s : State)
    (h : ∀ i ∈ is, ∀ t : State, t.entry i = s.entry i → f i t = notifyAll (ns i) (t.setEntry i (g i))) :
    Edited is g ns s (is.foldl (fun t i => f i t) s) := by
  induction is generalizing s with
  | nil => exact ⟨rfl, fun _ => rfl, rfl⟩
  | cons i is ih =>
    obtain ⟨hi, hnodup'⟩ := List.nodup_cons.mp hnodup
    have hfirst : f i s = notifyAll (ns i) (s.setEntry i (g i)) := h i List.mem_cons_self s rfl
    have hentry (j : Index) : (f i s).entry j = if i = j then g i else s.entry j := by
      rw [hfirst, entry_notifyAll, entry_setEntry]
    have hrest := ih hnodup' (f i s) fun j hj t ht => h j (List.mem_cons_of_mem _ hj) t
      (ht.trans ((hentry j).trans (if_neg (by rintro rfl; exact hi hj))))
    refine ⟨EditsOnly.trans (hfirst ▸ editsOnly_notifyAll_setEntry _ i _ s) hrest.frame, fun j => ?_, ?_⟩
    · rw [List.foldl_cons, hrest.entry, hentry]
      by_cases hji : i = j
      · subst hji
        simp [hi]
      · simp [hji, Ne.symm hji]
    · rw [List.foldl_cons, hrest.control, List.flatMap_cons, notifyAll_append]
      exact control_notifyAll_congr _ (hfirst ▸ control_notifyAll_congr _ rfl)

/-! ### Promotions and demotions (R8) -/

/-- An entry as the promotions of a round start leave it. -/
def promoteTo (e : Entry) : Entry :=
  if e.rate.slowerThan e.wantedRate then { e with cls := some e.wantedRate, rateHeld := false }
  else if e.wantedRate.slowerThan e.rate then e
  else { e with rateHeld := false }

/-- The notice of a promotion. -/
def promotion (e : Entry) : Option Notice :=
  if e.rate.slowerThan e.wantedRate then some (.rateChanged e.car e.rate e.wantedRate) else none

/-- An entry as a demotion, applied or held, leaves it. -/
def demoteTo (e : Entry) (held : Bool) : Entry :=
  if e.wantedRate.slowerThan e.rate then
    if held then { e with rateHeld := true } else { e with cls := some e.wantedRate, rateHeld := false }
  else e

/-- The notice of a demotion, applied or held (R8, R9). -/
def demotion (e : Entry) (held : Bool) : Option Notice :=
  if e.wantedRate.slowerThan e.rate = false then none
  else if held = false then some (.rateChanged e.car e.rate e.wantedRate)
  else if e.rateHeld then none
  else some (.rateHeld e.car e.rate e.wantedRate)

/-- Whether the demotion of an entry is held: the order table would not fit with it (R8). -/
def demotionHeld (i : Index) (s : State) : Bool :=
  !decide ((s.setEntry i { s.entry i with cls := some (s.entry i).wantedRate }).airtime ≤ s.image.round.period)

theorem promoteEntry_eq (i : Index) (s : State) :
    promoteEntry i s = notifyAll (promotion (s.entry i)).toList (s.setEntry i (promoteTo (s.entry i))) := by
  simp only [promoteEntry, promotion, promoteTo]
  split
  · rfl
  · split
    · rw [setEntry_entry]; rfl
    · rfl

theorem demoteEntry_eq (i : Index) (s : State) :
    demoteEntry i s = notifyAll (demotion (s.entry i) (demotionHeld i s)).toList (s.setEntry i (demoteTo (s.entry i) (demotionHeld i s))) := by
  by_cases hslower : (s.entry i).wantedRate.slowerThan (s.entry i).rate = true
  · by_cases hfits : (s.setEntry i { s.entry i with cls := some (s.entry i).wantedRate }).airtime ≤ s.image.round.period
    · have hheld : demotionHeld i s = false := by simp only [demotionHeld, hfits, decide_true, Bool.not_true]
      have hstep : demoteEntry i s = applyClass i s := (if_pos hslower).trans (if_pos hfits)
      rw [hstep, hheld, demotion, demoteTo, if_pos hslower, hslower]
      rfl
    · have hheld : demotionHeld i s = true := by simp only [demotionHeld, hfits, decide_false, Bool.not_false]
      have hstep : demoteEntry i s = holdDemotion i s := (if_pos hslower).trans (if_neg hfits)
      rw [hstep, hheld, demotion, demoteTo, if_pos hslower, hslower, holdDemotion]
      cases hflag : (s.entry i).rateHeld <;> rfl
  · have hstep : demoteEntry i s = s := if_neg hslower
    rw [hstep, demotion, demoteTo, if_neg hslower, if_pos (by simpa using hslower), setEntry_entry]
    rfl

theorem slowerThan_antisymm {x y : RateClass} (h : x.slowerThan y = true) : y.slowerThan x = false := by
  cases x <;> cases y <;> revert h <;> decide

/-- Of two classes neither of which is slower, both are one. -/
theorem eq_of_not_slowerThan {x y : RateClass} (h : x.slowerThan y = false) (h' : y.slowerThan x = false) : x = y := by
  cases x <;> cases y <;> revert h h' <;> decide

/-- An entry whose wanted class is slower is left by the promotions. -/
theorem promoteTo_of_slower {e : Entry} (h : e.wantedRate.slowerThan e.rate = true) : promoteTo e = e := by
  rw [promoteTo, if_neg (by rw [slowerThan_antisymm h]; decide), if_pos h]

/-- Any other has its wanted class, and wants no demotion, after the promotions. -/
theorem promoteTo_of_not_slower {e : Entry} (h : e.wantedRate.slowerThan e.rate = false) :
    (promoteTo e).rate = e.wantedRate ∧ (promoteTo e).rateHeld = false ∧
      (promoteTo e).wantedRate.slowerThan (promoteTo e).rate = false := by
  unfold promoteTo
  split
  · refine ⟨rfl, rfl, ?_⟩
    cases hw : e.wanted <;> simp [Entry.wantedRate, Entry.rate, hw, not_slowerThan_self]
  · next hfaster =>
    rw [if_neg (by rw [h]; decide)]
    exact ⟨(eq_of_not_slowerThan h (by simpa using hfaster)).symm, rfl, h⟩

theorem promoteTo_rate (e : Entry) : (promoteTo e).rate = e.promotedRate := by
  unfold promoteTo Entry.promotedRate
  split
  · rfl
  · split <;> rfl

/-- A class change touches the class and the rate-held flag alone. -/
def Reclassed (e' e : Entry) : Prop := e' = { e with cls := e'.cls, rateHeld := e'.rateHeld }

theorem Reclassed.refl (e : Entry) : Reclassed e e := rfl

theorem Reclassed.trans {a b c : Entry} (h : Reclassed a b) (h' : Reclassed b c) : Reclassed a c := by
  rw [Reclassed] at h'
  rw [h'] at h
  exact h

theorem Reclassed.granted {e' e : Entry} (h : Reclassed e' e) : e'.granted = e.granted := by rw [h]

theorem reclassed_promoteTo (e : Entry) : Reclassed (promoteTo e) e := by
  unfold promoteTo
  repeat' split
  all_goals rfl

theorem reclassed_demoteTo (e : Entry) (held : Bool) : Reclassed (demoteTo e held) e := by
  unfold demoteTo
  repeat' split
  all_goals rfl

/-! ### An operation on each entry that changes classes alone -/

/-- What holds of one reclassing of one entry holds of a run of them. -/
theorem reclassed_foldl (h : ∀ (i : Index) (t : State), ∃ ns e, Reclassed e (t.entry i) ∧ f i t = notifyAll ns (t.setEntry i e))
    (is : List Index) (s : State) :
    EditsOnly s (is.foldl (fun t i => f i t) s) ∧ ∀ j, Reclassed ((is.foldl (fun t i => f i t) s).entry j) (s.entry j) := by
  induction is generalizing s with
  | nil => exact ⟨rfl, fun _ => rfl⟩
  | cons i is ih =>
    obtain ⟨ns, e, he, heq⟩ := h i s
    obtain ⟨hframe, hentry⟩ := ih (f i s)
    refine ⟨EditsOnly.trans (heq ▸ editsOnly_notifyAll_setEntry ns i e s) hframe, fun j => (hentry j).trans ?_⟩
    rw [heq, entry_notifyAll, entry_setEntry]
    split
    · next hij => exact hij ▸ he
    · exact .refl _

theorem reclasses_promoteEntry (i : Index) (t : State) :
    ∃ ns e, Reclassed e (t.entry i) ∧ promoteEntry i t = notifyAll ns (t.setEntry i e) :=
  ⟨_, _, reclassed_promoteTo _, promoteEntry_eq i t⟩

theorem reclasses_demoteEntry (i : Index) (t : State) :
    ∃ ns e, Reclassed e (t.entry i) ∧ demoteEntry i t = notifyAll ns (t.setEntry i e) :=
  ⟨_, _, reclassed_demoteTo _ _, demoteEntry_eq i t⟩

theorem entry_demoteEntry_ne (i j : Index) (t : State) (h : j ≠ i) : (demoteEntry i t).entry j = t.entry j := by
  rw [demoteEntry_eq, entry_notifyAll, entry_setEntry_ne _ _ h.symm]

theorem entry_promoteEntry_ne (i j : Index) (t : State) (h : j ≠ i) : (promoteEntry i t).entry j = t.entry j := by
  rw [promoteEntry_eq, entry_notifyAll, entry_setEntry_ne _ _ h.symm]

/-- The state between the promotions and the demotions. -/
def promotions (s : State) : State := s.order.foldl (fun t i => promoteEntry i t) s

theorem editsOnly_promotions (s : State) : EditsOnly s (promotions s) := (reclassed_foldl reclasses_promoteEntry s.order s).1

theorem order_of_editsOnly (h : EditsOnly s t) : t.order = s.order := by rw [h]

theorem image_of_editsOnly (h : EditsOnly s t) : t.image = s.image := by rw [h]

theorem classChanges_eq (s : State) : classChanges s = s.order.foldl (fun t i => demoteEntry i t) (promotions s) := by
  rw [← order_of_editsOnly (editsOnly_promotions s)]
  rfl

/-- The class changes touch nothing but classes, rate-held flags and the control link. -/
theorem editsOnly_classChanges (s : State) : EditsOnly s (classChanges s) := by
  rw [classChanges_eq]
  exact (editsOnly_promotions s).trans (reclassed_foldl reclasses_demoteEntry _ _).1

theorem reclassed_classChanges (s : State) (j : Index) : Reclassed ((classChanges s).entry j) (s.entry j) := by
  rw [classChanges_eq]
  exact ((reclassed_foldl reclasses_demoteEntry _ _).2 j).trans ((reclassed_foldl reclasses_promoteEntry _ _).2 j)

theorem entry_classChanges_of_not_mem (h : j ∉ s.order) : (classChanges s).entry j = s.entry j := by
  rw [classChanges_eq, entry_foldl_of_not_mem entry_demoteEntry_ne h]
  exact entry_foldl_of_not_mem entry_promoteEntry_ne h s

/-! ### The class changes of an order table without repeats -/

theorem edited_promotions (h : s.order.Nodup) :
    Edited s.order (fun i => promoteTo (s.entry i)) (fun i => (promotion (s.entry i)).toList) s (promotions s) :=
  edited_foldl h s fun i _ t ht => by rw [promoteEntry_eq, ht]

theorem entry_promotions (h : s.order.Nodup) (hi : i ∈ s.order) : (promotions s).entry i = promoteTo (s.entry i) := by
  rw [(edited_promotions h).entry, if_pos hi]

/-- What an entry is after the demotions of the indices before it, of its own and of those behind it: its own decides. -/
theorem entry_demotions {pre post : List Index} (hnodup : (pre ++ i :: post).Nodup) (s : State) :
    ((pre ++ i :: post).foldl (fun t i => demoteEntry i t) s).entry i =
      demoteTo (s.entry i) (demotionHeld i (pre.foldl (fun t i => demoteEntry i t) s)) := by
  obtain ⟨-, hpost, hdisjoint⟩ := List.nodup_append.mp hnodup
  have hi : i ∉ pre := fun h => hdisjoint i h i List.mem_cons_self rfl
  rw [List.foldl_append, List.foldl_cons, entry_foldl_of_not_mem entry_demoteEntry_ne (List.nodup_cons.mp hpost).1, demoteEntry_eq,
    entry_notifyAll, entry_setEntry_self, entry_foldl_of_not_mem entry_demoteEntry_ne hi]

theorem demoteTo_rateHeld {e : Entry} (h : e.wantedRate.slowerThan e.rate = true) (held : Bool) : (demoteTo e held).rateHeld = held := by
  cases held <;> simp [demoteTo, h]

theorem filterMap_cons_toList {α β : Type} (f : α → Option β) (a : α) (as : List α) :
    (a :: as).filterMap f = (f a).toList ++ as.filterMap f := by
  cases h : f a <;> simp [h]

/-- The notices of the demotions, told from what the entries are in the end. -/
theorem control_demotions {is : List Index} (hnodup : is.Nodup) (s : State) :
    (is.foldl (fun t i => demoteEntry i t) s).control = (notifyAll
      (is.filterMap fun i => demotion (s.entry i) ((is.foldl (fun t i => demoteEntry i t) s).entry i).rateHeld) s).control := by
  induction is generalizing s with
  | nil => rfl
  | cons i is ih =>
    obtain ⟨hi, hnodup'⟩ := List.nodup_cons.mp hnodup
    have hlast : (is.foldl (fun t i => demoteEntry i t) (demoteEntry i s)).entry i = demoteTo (s.entry i) (demotionHeld i s) :=
      entry_demotions (pre := []) hnodup s
    have hnotice : demotion (s.entry i) ((is.foldl (fun t i => demoteEntry i t) (demoteEntry i s)).entry i).rateHeld =
        demotion (s.entry i) (demotionHeld i s) := by
      cases hslower : (s.entry i).wantedRate.slowerThan (s.entry i).rate with
      | false => simp [demotion, hslower]
      | true => rw [hlast, demoteTo_rateHeld hslower]
    have hothers : (is.filterMap fun j => demotion ((demoteEntry i s).entry j)
          ((is.foldl (fun t i => demoteEntry i t) (demoteEntry i s)).entry j).rateHeld) =
        is.filterMap fun j => demotion (s.entry j) ((is.foldl (fun t i => demoteEntry i t) (demoteEntry i s)).entry j).rateHeld :=
      List.filterMap_congr fun j hj => by rw [entry_demoteEntry_ne i j s (by rintro rfl; exact hi hj)]
    have hfirst : (demoteEntry i s).control = (notifyAll (demotion (s.entry i) (demotionHeld i s)).toList s).control := by
      rw [demoteEntry_eq]
      exact control_notifyAll_congr _ rfl
    rw [List.foldl_cons, ih hnodup', hothers, filterMap_cons_toList, hnotice, notifyAll_append]
    exact control_notifyAll_congr _ hfirst

/-- A demotion that is not wanted has no notice, before the promotions or after them. -/
theorem demotion_promoteTo (e : Entry) (held : Bool) : demotion (promoteTo e) held = demotion e held := by
  cases hslower : e.wantedRate.slowerThan e.rate with
  | true => rw [promoteTo_of_slower hslower]
  | false => simp [demotion, hslower, (promoteTo_of_not_slower hslower).2.2]

theorem entry_classChanges (hnodup : s.order.Nodup) {pre post : List Index} (horder : s.order = pre ++ i :: post) :
    (classChanges s).entry i =
      demoteTo (promoteTo (s.entry i)) (demotionHeld i (pre.foldl (fun t i => demoteEntry i t) (promotions s))) := by
  rw [classChanges_eq, horder, entry_demotions (horder ▸ hnodup), entry_promotions hnodup (by rw [horder]; simp)]

/-- The airtime of an order table, told by its entries (R5). -/
theorem airtime_eq (s : State) : s.airtime =
    s.image.round.fixedPart + (s.order.map fun i => slotLength s.image.round.pd (s.entry i).granted (s.entry i).rate).sum := rfl

/-- A demotion is held exactly when the order table does not fit with it: the entries before it as the class changes leave them, those
behind it as the promotions do (R8). -/
theorem demotionHeld_eq (hnodup : s.order.Nodup) {pre post : List Index} (horder : s.order = pre ++ i :: post)
    (hslower : (s.entry i).wantedRate.slowerThan (s.entry i).rate = true) :
    demotionHeld i (pre.foldl (fun t i => demoteEntry i t) (promotions s)) = !decide (s.image.round.fixedPart
      + (pre.map fun j => slotLength s.image.round.pd (s.entry j).granted ((classChanges s).entry j).rate).sum
      + slotLength s.image.round.pd (s.entry i).granted (s.entry i).wantedRate
      + (post.map fun j => slotLength s.image.round.pd (s.entry j).granted (s.entry j).promotedRate).sum ≤ s.image.round.period) := by
  obtain ⟨-, hpost, hdisjoint⟩ := List.nodup_append.mp (horder ▸ hnodup)
  obtain ⟨hipost, -⟩ := List.nodup_cons.mp hpost
  have hipre : i ∉ pre := fun h => hdisjoint i h i List.mem_cons_self rfl
  have hmem : ∀ j, j ∈ i :: post → j ∈ s.order := fun j hj => horder ▸ List.mem_append_right pre hj
  generalize hu : pre.foldl (fun t i => demoteEntry i t) (promotions s) = u
  have hedits : EditsOnly s u := hu ▸ (editsOnly_promotions s).trans (reclassed_foldl reclasses_demoteEntry _ _).1
  have hreclassed (j : Index) : Reclassed (u.entry j) (s.entry j) := hu ▸
    ((reclassed_foldl reclasses_demoteEntry _ _).2 j).trans ((reclassed_foldl reclasses_promoteEntry _ _).2 j)
  have hbehind (j : Index) (hj : j ∈ i :: post) : u.entry j = promoteTo (s.entry j) := by
    rw [← hu, entry_foldl_of_not_mem entry_demoteEntry_ne fun h => hdisjoint j h j hj rfl, entry_promotions hnodup (hmem j hj)]
  have hbefore (j : Index) (hj : j ∈ pre) : (classChanges s).entry j = u.entry j := by
    rw [classChanges_eq, horder, List.foldl_append, hu, entry_foldl_of_not_mem entry_demoteEntry_ne fun h => hdisjoint j hj j h rfl]
  have hi : u.entry i = s.entry i := (hbehind i List.mem_cons_self).trans (promoteTo_of_slower hslower)
  have hwritten (j : Index) (e : Entry) (hji : j ≠ i) : (u.setEntry i e).entry j = u.entry j := entry_setEntry_ne u e hji.symm
  unfold demotionHeld
  rw [airtime_eq, setEntry_order, setEntry_image, order_of_editsOnly hedits, image_of_editsOnly hedits, horder, List.map_append,
    List.sum_append, List.map_cons, List.sum_cons, entry_setEntry_self, hi]
  have hpreSum : (pre.map fun j => slotLength s.image.round.pd
        ((u.setEntry i { s.entry i with cls := some (s.entry i).wantedRate }).entry j).granted
        ((u.setEntry i { s.entry i with cls := some (s.entry i).wantedRate }).entry j).rate) =
      pre.map fun j => slotLength s.image.round.pd (s.entry j).granted ((classChanges s).entry j).rate :=
    List.map_congr_left fun j hj => by
      rw [hwritten j _ fun h => hipre (h ▸ hj), (hreclassed j).granted, hbefore j hj]
  have hpostSum : (post.map fun j => slotLength s.image.round.pd
        ((u.setEntry i { s.entry i with cls := some (s.entry i).wantedRate }).entry j).granted
        ((u.setEntry i { s.entry i with cls := some (s.entry i).wantedRate }).entry j).rate) =
      post.map fun j => slotLength s.image.round.pd (s.entry j).granted (s.entry j).promotedRate :=
    List.map_congr_left fun j hj => by
      rw [hwritten j _ fun h => hipost (h ▸ hj), (hreclassed j).granted, hbehind j (List.mem_cons_of_mem _ hj), promoteTo_rate]
  rw [hpreSum, hpostSum, ← Nat.add_assoc, ← Nat.add_assoc]
  rfl

theorem demoteTo_applied {e : Entry} (h : e.wantedRate.slowerThan e.rate = true) :
    (demoteTo e false).rate = e.wantedRate ∧ (demoteTo e false).rateHeld = false := by
  rw [demoteTo, if_pos h]
  exact ⟨rfl, rfl⟩

theorem demoteTo_held {e : Entry} (h : e.wantedRate.slowerThan e.rate = true) :
    (demoteTo e true).rate = e.rate ∧ (demoteTo e true).rateHeld = true := by
  rw [demoteTo, if_pos h]
  exact ⟨rfl, rfl⟩

theorem demoteTo_not {e : Entry} (h : e.wantedRate.slowerThan e.rate = false) (held : Bool) : demoteTo e held = e :=
  if_neg (by rw [h]; decide)

theorem control_classChanges (hnodup : s.order.Nodup) : (classChanges s).control = (notifyAll
    ((s.order.filterMap fun i => promotion (s.entry i))
      ++ s.order.filterMap fun i => demotion (s.entry i) ((classChanges s).entry i).rateHeld) s).control := by
  have hlater : (s.order.filterMap fun i => demotion ((promotions s).entry i)
        ((s.order.foldl (fun t i => demoteEntry i t) (promotions s)).entry i).rateHeld) =
      s.order.filterMap fun i => demotion (s.entry i) ((classChanges s).entry i).rateHeld :=
    List.filterMap_congr fun i hi => by rw [entry_promotions hnodup hi, demotion_promoteTo, classChanges_eq]
  have hfirst := (edited_promotions hnodup).control
  rw [← List.filterMap_eq_flatMap_toList] at hfirst
  rw [notifyAll_append, ← hlater]
  conv_lhs => rw [classChanges_eq, control_demotions hnodup]
  exact control_notifyAll_congr _ hfirst

end

/-- Settles O32: every entry of the order table by the test made at its place in it. -/
theorem classChangesObeyFitRule : Obligations.ClassChangesObeyFitRule := by
  intro s hnodup t slot
  refine ⟨editsOnly_classChanges s, reclassed_classChanges s, fun i hi => entry_classChanges_of_not_mem hi, fun i hi hslower => ?_,
    fun pre i post horder hslower => ?_, control_classChanges hnodup⟩
  · obtain ⟨pre, post, horder⟩ := List.append_of_mem hi
    obtain ⟨hrate, hheld, hnot⟩ := promoteTo_of_not_slower hslower
    have hentry : t.entry i = promoteTo (s.entry i) := (entry_classChanges hnodup horder).trans (demoteTo_not hnot _)
    rw [hentry]
    exact ⟨hrate, hheld⟩
  · have hentry : t.entry i = _ := entry_classChanges hnodup horder
    rw [promoteTo_of_slower hslower, demotionHeld_eq hnodup horder hslower] at hentry
    rw [hentry]
    split
    · next hfits =>
      rw [decide_eq_true hfits]
      exact demoteTo_applied hslower
    · next hfits =>
      rw [decide_eq_false hfits]
      exact demoteTo_held hslower

end Sys2Proof.Proofs
end

section
/-!
PROOFS. The counts of a round start at which no entry is freed (R40, R47, R96, R97, R107).
-/
namespace Sys2Proof.Proofs
open Sys2Proof.Machine

section
variable {s : State} {i : Index}

theorem countPhase_still (h : (s.entry i).phaseRunsOut = false) :
    countPhase i s = s.setEntry i { s.entry i with phaseTimer := (s.entry i).phaseTimer.map (· - 1) } := if_neg (by simp [h])

theorem countConfirm_still (h : (s.entry i).confirmRunsOut = false) :
    countConfirm i s = s.setEntry i { s.entry i with confirmTimer := (s.entry i).confirmTimer - 1 } := if_neg (by simp [h])

theorem countBars_eq (s : State) : countBars s = { s with
    bars := (s.bars.filter fun b => decide (1 < b.rounds)).map fun b => { b with rounds := b.rounds - 1 } } := by
  refine congrArg (fun bs => { s with bars := bs }) ?_
  rw [List.filter_map]
  refine congrArg (List.map _) (List.filter_congr fun b _ => ?_)
  simp only [Function.comp_apply, bne, ← decide_not, Nat.sub_eq_zero_iff_le, beq_eq_decide, Nat.not_le]

/-- The commands of an entry that go on after a round start, each a round older (R97). -/
def agedCommands (e : Entry) : List Command :=
  (e.commands.map fun k => { k with age := min (k.age + 1) 65535 }).filter fun k => decide (k.expiry = 0 ∨ k.age < k.expiry)

/-- The notices of those that expire (R97). -/
def expiries (e : Entry) : List Notice :=
  (e.commands.filter fun k => decide (k.expiry ≠ 0 ∧ k.expiry ≤ min (k.age + 1) 65535)).map fun k => .expired k.number e.car k.sent

/-- An entry counted at a round start that leaves it as it is (R40, R96, R97, R107). -/
def countedEntry (e : Entry) : Entry := { e with
  phaseTimer := e.phaseTimer.map (· - 1), confirmTimer := e.confirmTimer - 1, pace := e.pace - 1, commands := agedCommands e }

theorem not_isExpired (k : Command) : (!k.isExpired) = decide (k.expiry = 0 ∨ k.age < k.expiry) := by
  rw [Command.isExpired]
  by_cases h : k.expiry = 0 <;> simp [h, ← decide_not]

theorem expireEntry_countRound {e : Entry} (h : s.entry i = e.countRound) :
    expireEntry i s = notifyAll (expiries e) (s.setEntry i { e with pace := e.pace - 1, commands := agedCommands e }) := by
  have hkept : (s.entry i).commands.filter (fun k => !k.isExpired) = agedCommands e := by
    rw [h]
    exact List.filter_congr fun k _ => not_isExpired k
  have hnotices : ((s.entry i).commands.filter Command.isExpired).map (fun k => Notice.expired k.number (s.entry i).car k.sent) =
      expiries e := by
    rw [h, Entry.countRound, List.filter_map, List.map_map]
    refine congrArg (List.map _) (List.filter_congr fun k _ => ?_)
    rw [Bool.eq_iff_iff]
    simp [Command.isExpired, saturate]
  rw [expireEntry, hkept, hnotices, h]
  rfl

/-- The counts of a round start at which no timer of an entry runs out. -/
theorem roundCounts_still (h : ∀ i, (s.entry i).phaseRunsOut = false ∧ (s.entry i).confirmRunsOut = false) :
    (∃ r k, roundCounts s = { s with roster := r, control := k
                                     bars := (s.bars.filter fun b => decide (1 < b.rounds)).map fun b => { b with rounds := b.rounds - 1 } }) ∧
    (∀ i, (roundCounts s).entry i = countedEntry (s.entry i)) ∧
    (roundCounts s).control = (notifyAll (indices.flatMap fun i => expiries (s.entry i)) s).control := by
  have hall (i : Index) : i ∈ indices := List.mem_finRange i
  have hnodup : indices.Nodup := List.nodup_finRange 24
  obtain ⟨hframe₁, hentry₁, hcontrol₁⟩ := edited_foldl (f := countPhase) (ns := fun _ => [])
    (g := fun i => { s.entry i with phaseTimer := (s.entry i).phaseTimer.map (· - 1) }) hnodup s
    fun i _ t ht => by rw [countPhase_still (ht ▸ (h i).1), ht]; rfl
  generalize hs₁ : indices.foldl (fun t i => countPhase i t) s = s₁ at hframe₁ hentry₁ hcontrol₁
  simp only [hall, if_true] at hentry₁
  obtain ⟨hframe₂, hentry₂, hcontrol₂⟩ := edited_foldl (f := countConfirm) (ns := fun _ => [])
    (g := fun i => { s₁.entry i with confirmTimer := (s₁.entry i).confirmTimer - 1 }) hnodup s₁
    fun i _ t ht => by rw [countConfirm_still (by rw [ht, hentry₁]; exact (h i).2), ht]; rfl
  generalize hs₂ : indices.foldl (fun t i => countConfirm i t) s₁ = s₂ at hframe₂ hentry₂ hcontrol₂
  simp only [hall, if_true] at hentry₂
  have hentry₄ (i : Index) : ((countBars s₂).mapEntries Entry.countRound).entry i = (s₂.entry i).countRound := entry_mapEntries _ _ i
  obtain ⟨hframe₅, hentry₅, hcontrol₅⟩ := edited_foldl (f := expireEntry) (ns := fun i => expiries (s₂.entry i))
    (g := fun i => { s₂.entry i with pace := (s₂.entry i).pace - 1, commands := agedCommands (s₂.entry i) }) hnodup
    ((countBars s₂).mapEntries Entry.countRound) fun i _ t ht => expireEntry_countRound (ht.trans (hentry₄ i))
  have hcounts : roundCounts s = indices.foldl (fun t i => expireEntry i t) ((countBars s₂).mapEntries Entry.countRound) := by
    rw [← hs₂, ← hs₁]
    rfl
  rw [← hcounts] at hframe₅ hentry₅ hcontrol₅
  simp only [hall, if_true] at hentry₅
  have hframe₁₂ : EditsOnly s s₂ := hframe₁.trans hframe₂
  have hnone (t : State) : notifyAll (indices.flatMap fun _ => []) t = t := by rw [List.flatMap_eq_nil_iff.mpr fun _ _ => rfl]; rfl
  refine ⟨⟨(roundCounts s).roster, (roundCounts s).control, ?_⟩, fun i => ?_, ?_⟩
  · rw [EditsOnly] at hframe₅ hframe₁₂
    rw [countBars_eq, hframe₁₂] at hframe₅
    exact hframe₅
  · rw [hentry₅, hentry₂, hentry₁]
    rfl
  · have hexpiries : (fun i => expiries (s₂.entry i)) = fun i => expiries (s.entry i) := by
      funext i
      rw [hentry₂, hentry₁]
      rfl
    rw [hcontrol₅, hexpiries]
    rw [hnone] at hcontrol₁ hcontrol₂
    exact control_notifyAll_congr _ (hcontrol₂.trans hcontrol₁)

end

/-- Settles O31: every entry counted, then the class changes on what the counts left. -/
theorem roundStartCounts : Obligations.RoundStartCounts := by
  intro s hs h
  obtain ⟨⟨r, k, hframe⟩, hentry, hcontrol⟩ := roundCounts_still (s := liveIntoForce s) h
  have hexec : exec .roundStart s = .next (beginRound (classChanges (roundCounts (liveIntoForce s)))) := exec_roundStart hs
  generalize roundCounts (liveIntoForce s) = u at hframe hentry hcontrol hexec
  have horder : u.order = s.order := by rw [hframe]; rfl
  have hclass := editsOnly_classChanges u
  have hentry' (i : Index) : Reclassed ((classChanges u).entry i) (countedEntry (s.entry i)) := hentry i ▸ reclassed_classChanges u i
  refine ⟨_, hexec, ?_, ?_, ?_, ⟨u, horder, by rw [hframe]; rfl, hentry, hcontrol.trans (control_notifyAll_congr _ rfl), rfl, rfl⟩,
    fun i => ⟨hentry' i, fun hi => ?_⟩⟩
  · exact (order_of_editsOnly hclass).trans horder
  · have hanswers : (classChanges u).answers = s.answers := by rw [hclass, hframe]; rfl
    exact congrArg (List.drop 4) hanswers
  · have hbars : (classChanges u).bars = u.bars := by rw [hclass]
    exact hbars.trans (by rw [hframe]; rfl)
  · have hsame : (classChanges u).entry i = countedEntry (s.entry i) :=
      (entry_classChanges_of_not_mem (by rw [horder]; exact hi)).trans (hentry i)
    have hcls := congrArg Entry.cls hsame
    have hheld := congrArg Entry.rateHeld hsame
    exact ⟨hcls, hheld⟩

end Sys2Proof.Proofs
end

section
/-!
PROOFS. The round start as a whole: the entries its timers free, the plan it builds, and the beacon (R16 to R20).
-/
namespace Sys2Proof.Proofs
open Sys2Proof.Machine

section
variable {s t u : State} {i : Index} {gone gone' : Index → Bool} {left left' : CarNumber → Bool}

/-! ### What the entries freed at a round start leave -/

/-- A plan whose positions of some indices have become stale. -/
def stalePlan (gone : Index → Bool) (p : Plan) : Plan :=
  { p with positions := p.positions.map fun q => { q with stale := q.stale || gone q.index } }

/-- The place answers of some cars taken away. -/
def withoutPlaces (left : CarNumber → Bool) (as : List Answer) : List Answer :=
  as.filter fun a => match a.result with
    | .place .. => !left a.car
    | .denial _ => true

theorem stalePlan_false (p : Plan) : stalePlan (fun _ => false) p = p := by simp [stalePlan]

theorem stalePlan_stalePlan (gone gone' : Index → Bool) (p : Plan) :
    stalePlan gone' (stalePlan gone p) = stalePlan (fun j => gone j || gone' j) p := by
  simp [stalePlan, Bool.or_assoc]

theorem markStale_eq_stalePlan (i : Index) (p : Plan) : p.markStale i = stalePlan (fun j => decide (j = i)) p := markStale_eq i p

theorem withoutPlaces_false (as : List Answer) : withoutPlaces (fun _ => false) as = as := by
  refine List.filter_eq_self.mpr fun a _ => ?_
  cases a.result <;> rfl

theorem withoutPlaces_withoutPlaces (left left' : CarNumber → Bool) (as : List Answer) :
    withoutPlaces left' (withoutPlaces left as) = withoutPlaces (fun c => left c || left' c) as := by
  rw [withoutPlaces, withoutPlaces, List.filter_filter]
  refine List.filter_congr fun a _ => ?_
  cases a.result with
  | place => simp [Bool.and_comm]
  | denial => rfl

/-- Some entries have been freed, others only counted: the three plans stale at the entries gone, their place answers gone, and
otherwise nothing but the roster, the order table, the bars and the control link touched. -/
structure Frees (gone : Index → Bool) (left : CarNumber → Bool) (s t : State) : Prop where
  answers : t.answers = withoutPlaces left s.answers
  rest : t = { s with
    engine := { s.engine with plan := stalePlan gone s.engine.plan, prev := stalePlan gone s.engine.prev, older := stalePlan gone s.engine.older }
    roster := t.roster, order := t.order, bars := t.bars, answers := t.answers, control := t.control }

theorem Frees.trans (h : Frees gone left s t) (h' : Frees gone' left' t u) :
    Frees (fun j => gone j || gone' j) (fun c => left c || left' c) s u where
  answers := by rw [h'.answers, h.answers, withoutPlaces_withoutPlaces]
  rest := by
    have hrest := h'.rest
    rw [h.rest] at hrest
    simp only [stalePlan_stalePlan] at hrest
    exact hrest

theorem Frees.congr (h : Frees gone left s t) (hgone : ∀ j, gone j = gone' j) (hleft : ∀ c, left c = left' c) : Frees gone' left' s t :=
  (funext hgone : gone = gone') ▸ (funext hleft : left = left') ▸ h

/-- Where nothing is freed the plans and the answers stay. -/
theorem frees_none (h : t = { s with roster := t.roster, order := t.order, bars := t.bars, control := t.control }) :
    Frees (fun _ => false) (fun _ => false) s t where
  answers := by rw [withoutPlaces_false, h]
  rest := by
    rw [stalePlan_false, stalePlan_false, stalePlan_false]
    have hanswers : t.answers = s.answers := by rw [h]
    rw [hanswers]
    exact h

theorem frees_of_editsOnly (h : EditsOnly s t) : Frees (fun _ => false) (fun _ => false) s t := by
  refine frees_none ?_
  rw [EditsOnly] at h
  have horder : t.order = s.order := by rw [h]
  have hbars : t.bars = s.bars := by rw [h]
  rw [horder, hbars]
  exact h

theorem frees_setEntry (i : Index) (e : Entry) (ns : List Notice) (s : State) :
    Frees (fun _ => false) (fun _ => false) s (notifyAll ns (s.setEntry i e)) :=
  frees_of_editsOnly (editsOnly_notifyAll_setEntry ns i e s)

/-- An entry freed. -/
theorem frees_freeEntry (i : Index) (n : Option Notice) (r : UndeliveredReason) (s : State) :
    Frees (fun j => decide (j = i)) (fun c => (s.entry i).car == c) s (freeEntry i n r s) where
  answers := by
    rw [(freeEntry_spec s i n r).2.1, clearEntry_answers]
    refine List.filter_congr fun a _ => ?_
    cases a.result with
    | place => exact congrArg _ (Bool.beq_comm ..)
    | denial => rfl
  rest := by
    rw [freeEntry, notifyAll_eq, clearEntry, markStale_eq_stalePlan, markStale_eq_stalePlan, markStale_eq_stalePlan]
    rfl

/-- A run over the indices of an operation that frees some of them, each by what its own entry is. -/
theorem frees_foldl {f : Index → State → State} {car : Index → CarNumber} {is : List Index} (hnodup : is.Nodup) (s : State)
    (h : ∀ i ∈ is, ∀ t : State, t.entry i = s.entry i →
      Frees (fun j => decide (j = i) && gone i) (fun c => gone i && (car i == c)) t (f i t) ∧ ∀ j, j ≠ i → (f i t).entry j = t.entry j) :
    Frees (fun j => decide (j ∈ is) && gone j) (fun c => is.any fun i => gone i && (car i == c)) s (is.foldl (fun t i => f i t) s) := by
  induction is generalizing s with
  | nil => exact (frees_of_editsOnly (.refl s)).congr (fun _ => by simp) fun _ => rfl
  | cons i is ih =>
    obtain ⟨hi, hnodup'⟩ := List.nodup_cons.mp hnodup
    obtain ⟨hfirst, hothers⟩ := h i List.mem_cons_self s rfl
    have hrest := ih hnodup' (f i s) fun j hj t ht => h j (List.mem_cons_of_mem _ hj) t
      (ht.trans (hothers j (by rintro rfl; exact hi hj)))
    refine (hfirst.trans hrest).congr (fun j => ?_) fun c => rfl
    by_cases hji : j = i
    · subst hji
      simp [hi]
    · simp [hji]

/-! ### The entries that the timers of a round start free -/

/-- An entry that the end of its phase timer frees (R115, R119). -/
def phaseFrees (e : Entry) : Bool := e.phaseRunsOut && (e.state == .moving || e.state == .arriving)

theorem phaseRunsOut_inHandover {e : Entry} (h : e.phaseRunsOut = true) : e.state.inHandover = true := by
  simp only [Entry.phaseRunsOut, Bool.and_eq_true] at h
  exact h.1

/-- What the phase timer of an entry does at a round start: it counts down, sends an OFFERING entry back, or frees the entry. -/
theorem countPhase_cases (i : Index) (s : State) :
    ((s.entry i).phaseRunsOut = false ∧
      countPhase i s = s.setEntry i { s.entry i with phaseTimer := (s.entry i).phaseTimer.map (· - 1) }) ∨
    ((s.entry i).phaseRunsOut = true ∧ (s.entry i).state = .offering ∧ countPhase i s = offerExpired i s) ∨
    ((s.entry i).phaseRunsOut = true ∧ ((s.entry i).state = .moving ∨ (s.entry i).state = .arriving) ∧
      ∃ n r, countPhase i s = freeEntry i n r s) := by
  cases hruns : (s.entry i).phaseRunsOut with
  | false => exact .inl ⟨rfl, countPhase_still hruns⟩
  | true =>
    have hhandover := phaseRunsOut_inHandover hruns
    have hstep : countPhase i s = phaseExpired i s := if_pos hruns
    rw [hstep]
    unfold phaseExpired
    split
    · next h => exact .inr (.inl ⟨rfl, h, rfl⟩)
    · next h => exact .inr (.inr ⟨rfl, .inl h, _, _, rfl⟩)
    · next h => exact .inr (.inr ⟨rfl, .inr h, _, _, rfl⟩)
    · next h1 h2 h3 =>
      cases hstate : (s.entry i).state with
      | offering => exact absurd hstate h1
      | moving => exact absurd hstate h2
      | arriving => exact absurd hstate h3
      | free | pending | joining | active => rw [hstate] at hhandover; cases hhandover

/-- An entry as the phase timers of a round start leave it (R107). -/
def countPhaseTo (e : Entry) : Entry :=
  if e.phaseRunsOut then if e.state = .offering then e.backToActive else Entry.vacant
  else { e with phaseTimer := e.phaseTimer.map (· - 1) }

theorem entry_countPhase (i j : Index) (s : State) :
    (countPhase i s).entry j = if i = j then countPhaseTo (s.entry i) else s.entry j := by
  unfold countPhaseTo
  rcases countPhase_cases i s with ⟨hruns, heq⟩ | ⟨hruns, hstate, heq⟩ | ⟨hruns, hstate, n, r, heq⟩
  · rw [heq, hruns, entry_setEntry]
    rfl
  · rw [heq, if_pos hruns, if_pos hstate]
    exact (entry_notify _ _ j).trans (entry_setEntry s i j _)
  · have hnot : (s.entry i).state ≠ .offering := by rcases hstate with h | h <;> rw [h] <;> decide
    rw [heq, if_pos hruns, if_neg hnot, entry_freeEntry]

theorem frees_countPhase (i : Index) (s : State) :
    Frees (fun j => decide (j = i) && phaseFrees (s.entry i)) (fun c => phaseFrees (s.entry i) && ((s.entry i).car == c)) s (countPhase i s) := by
  unfold phaseFrees
  rcases countPhase_cases i s with ⟨hruns, heq⟩ | ⟨hruns, hstate, heq⟩ | ⟨hruns, hstate, n, r, heq⟩
  · rw [heq]
    exact (frees_setEntry i _ [] s).congr (fun _ => by simp [hruns]) fun _ => by simp [hruns]
  · rw [heq]
    exact (frees_setEntry i _ [_] s).congr (fun _ => by simp [hstate]) fun _ => by simp [hstate]
  · rw [heq]
    have hfrees : ((s.entry i).state == .moving || (s.entry i).state == .arriving) = true := by simpa using hstate
    exact (frees_freeEntry i n r s).congr (fun _ => by simp [hruns, hfrees]) fun _ => by simp [hruns, hfrees]

theorem countConfirm_frees (h : (s.entry i).confirmRunsOut = true) : countConfirm i s = confirmExpired i s := if_pos h

theorem entry_countConfirm_ne (i j : Index) (s : State) (h : j ≠ i) : (countConfirm i s).entry j = s.entry j := by
  cases hruns : (s.entry i).confirmRunsOut with
  | false => rw [countConfirm_still hruns, entry_setEntry_ne _ _ h.symm]
  | true => rw [countConfirm_frees hruns, confirmExpired, entry_freeEntry, if_neg h.symm]

theorem frees_countConfirm (i : Index) (s : State) :
    Frees (fun j => decide (j = i) && (s.entry i).confirmRunsOut) (fun c => (s.entry i).confirmRunsOut && ((s.entry i).car == c)) s
      (countConfirm i s) := by
  cases hruns : (s.entry i).confirmRunsOut with
  | false =>
    rw [countConfirm_still hruns]
    exact (frees_setEntry i _ [] s).congr (fun _ => by simp) fun _ => by simp
  | true =>
    rw [countConfirm_frees hruns]
    exact (frees_freeEntry i _ _ s).congr (fun _ => by simp) fun _ => by simp

/-- An operation on each index that changes that entry by a function of it. -/
theorem entry_foldl_each {f : Index → State → State} {g : Entry → Entry}
    (h : ∀ (i j : Index) (t : State), (f i t).entry j = if i = j then g (t.entry i) else t.entry j) {is : List Index} (hnodup : is.Nodup)
    (s : State) (j : Index) : (is.foldl (fun t i => f i t) s).entry j = if j ∈ is then g (s.entry j) else s.entry j := by
  induction is generalizing s with
  | nil => rfl
  | cons i is ih =>
    obtain ⟨hi, hnodup'⟩ := List.nodup_cons.mp hnodup
    rw [List.foldl_cons, ih hnodup', h]
    by_cases hij : i = j
    · subst hij
      simp [hi]
    · simp [hij, Ne.symm hij]

theorem editsOnly_foldl {f : Index → State → State} (h : ∀ i t, EditsOnly t (f i t)) (is : List Index) (s : State) :
    EditsOnly s (is.foldl (fun t i => f i t) s) := by
  induction is generalizing s with
  | nil => exact .refl s
  | cons i is ih => exact (h i s).trans (ih (f i s))

theorem editsOnly_expireEntry (i : Index) (t : State) : EditsOnly t (expireEntry i t) := editsOnly_notifyAll_setEntry _ i _ t

/-- The phase timers decide nothing of a confirm timer: a PENDING entry has no phase (R40, R107). -/
theorem confirmRunsOut_countPhaseTo (e : Entry) : (countPhaseTo e).confirmRunsOut = e.confirmRunsOut ∧
    (e.confirmRunsOut = true → (countPhaseTo e).car = e.car) := by
  unfold countPhaseTo
  cases hruns : e.phaseRunsOut with
  | false => exact ⟨rfl, fun _ => rfl⟩
  | true =>
    have hnot : e.confirmRunsOut = false := by
      have hhandover := phaseRunsOut_inHandover hruns
      refine confirmRunsOut_not (.inl ?_)
      rintro hstate
      rw [hstate] at hhandover
      cases hhandover
    rw [hnot]
    refine ⟨?_, nofun⟩
    simp only [if_true]
    split <;> rfl

theorem frees_bars (t : State) : Frees (fun _ => false) (fun _ => false) t ((countBars t).mapEntries Entry.countRound) := frees_none rfl

/-- The entries that a round start frees, by its phase timers and its confirm timers. -/
def roundFrees (e : Entry) : Bool := phaseFrees e || e.confirmRunsOut

/-- All that the counts of a round start do to the plans and the answers. -/
theorem frees_roundCounts (s : State) : Frees (fun j => roundFrees (s.entry j))
    (fun c => indices.any fun i => roundFrees (s.entry i) && ((s.entry i).car == c)) s (roundCounts s) := by
  have hall (j : Index) : j ∈ indices := List.mem_finRange j
  have hnodup : indices.Nodup := List.nodup_finRange 24
  have hphase := frees_foldl (f := countPhase) (gone := fun i => phaseFrees (s.entry i)) (car := fun i => (s.entry i).car) hnodup s
    fun i _ t ht => ⟨ht ▸ frees_countPhase i t, fun j hj => (entry_countPhase i j t).trans (if_neg hj.symm)⟩
  have hentry (i : Index) : (forEach countPhase s).entry i = countPhaseTo (s.entry i) :=
    (entry_foldl_each entry_countPhase hnodup s i).trans (if_pos (hall i))
  have hconfirm := frees_foldl (f := countConfirm) (gone := fun i => (s.entry i).confirmRunsOut) (car := fun i => (s.entry i).car) hnodup
    (forEach countPhase s) fun i _ t ht => by
      obtain ⟨hruns, hcar⟩ := confirmRunsOut_countPhaseTo (s.entry i)
      refine ⟨(frees_countConfirm i t).congr (fun j => ?_) fun c => ?_, fun j hj => entry_countConfirm_ne i j t hj⟩
      · rw [ht, hentry, hruns]
      · rw [ht, hentry, hruns]
        cases h : (s.entry i).confirmRunsOut with
        | false => rfl
        | true => rw [hcar h]
  have hothers : Frees (fun _ => false) (fun _ => false) ((countBars (forEach countConfirm (forEach countPhase s))).mapEntries Entry.countRound)
      (roundCounts s) :=
    frees_of_editsOnly (editsOnly_foldl editsOnly_expireEntry indices _)
  refine (hphase.trans (hconfirm.trans ((frees_bars _).trans hothers))).congr (fun j => ?_) fun c => ?_
  · simp [hall, roundFrees]
  · rw [Bool.eq_iff_iff]
    simp only [roundFrees, Bool.or_false, Bool.or_eq_true, List.any_eq_true, Bool.and_eq_true, or_and_right, exists_or, and_or_left]

/-! ### The plan (R17, R25) -/

theorem index_positionsFrom (s : State) (start : Nat) (order : List Index) : (positionsFrom s start order).map Position.index = order := by
  induction order generalizing start with
  | nil => rfl
  | cons i is ih => exact congrArg (i :: ·) (ih _)

/-- Each position stands for its index and starts where the one before it ends. -/
theorem getElem?_positionsFrom {start k : Nat} {order : List Index} {p : Position} (h : (positionsFrom s start order)[k]? = some p) :
    p = positionAt s p.index (start + (((positionsFrom s start order).take k).map Position.slot).sum) := by
  induction order generalizing start k with
  | nil => cases h
  | cons i is ih =>
    cases k with
    | zero =>
      obtain rfl : positionAt s i start = p := Option.some.inj h
      rfl
    | succ k =>
      have hp := ih (start := start + (positionAt s i start).slot) (k := k) h
      rw [positionsFrom, List.take_succ_cons, List.map_cons, List.sum_cons, ← Nat.add_assoc]
      exact hp

theorem graceAt_grace (resume : Bool) (setting count : Nat) : (graceAt resume setting count).2 = (resume || decide (0 < count)) := by
  cases resume <;> rfl

theorem graceAt_count (resume : Bool) (setting count : Nat) :
    (graceAt resume setting count).1 = if resume then setting else count - 1 := by
  cases resume <;> rfl

theorem mem_joinWindows {n : Nat} (j : Fin 4) : j ∈ joinWindows n ↔ j.val < n := by simp [joinWindows]

end

/-- Settles O30: the counts and the class changes first, then the plan, the answers, the broadcast and the beacon of what they left. -/
theorem roundStartBuildsPlan : Obligations.RoundStartBuildsPlan := by
  intro s hs freed left
  have hexec : exec .roundStart s = .next (beginRound (classChanges (roundCounts (liveIntoForce s)))) := exec_roundStart hs
  have hfrees := ((frees_roundCounts (liveIntoForce s)).trans (frees_of_editsOnly (editsOnly_classChanges _))).congr (gone' := freed)
    (left' := fun c => indices.any fun i => freed i && ((s.entry i).car == c)) (fun _ => Bool.or_false _) fun _ => Bool.or_false _
  have horder : (classChanges (roundCounts (liveIntoForce s))).order = (roundCounts (liveIntoForce s)).order :=
    order_of_editsOnly (editsOnly_classChanges _)
  have hanswers : (classChanges (roundCounts (liveIntoForce s))).answers = left := hfrees.answers
  have hform := hfrees.rest
  rw [hanswers] at hform
  obtain ⟨w, hw⟩ : ∃ w, w = classChanges (roundCounts (liveIntoForce s)) := ⟨_, rfl⟩
  rw [← hw] at hexec hform horder
  generalize w.roster = roster, w.order = order, w.bars = bars, w.control = control at hform
  have hrest (u : State) (hu : u = roundCounts (liveIntoForce s)) :
      w.roster = (classChanges u).roster ∧ w.control = (classChanges u).control ∧ w.order = u.order := by
    rw [hu, ← hw]
    exact ⟨rfl, rfl, horder⟩
  clear hw horder
  subst hform
  refine ⟨_, hexec, rfl, rfl, rfl, fun h => if_neg h, rfl, rfl, rfl, rfl, rfl, rfl, rfl, rfl, rfl, rfl,
    ⟨rfl, index_positionsFrom _ _ _, fun k p hp => ?_, rfl, mem_joinWindows⟩, ?_, ?_, rfl, hrest, rfl, rfl, rfl, rfl⟩
  · have hpos := getElem?_positionsFrom hp
    rw [hpos]
    exact ⟨rfl, rfl, rfl, rfl, rfl, rfl, rfl, rfl⟩
  · exact graceAt_grace _ _ _
  · exact graceAt_count _ _ _

end Sys2Proof.Proofs
end

section
/-!
PROOFS. The stages of the close of an uplink window (R72): what each may touch, and what each does to the entry of its position.
-/
namespace Sys2Proof.Proofs
open Sys2Proof.Machine

section
variable {s t u : State} {i : Index}

/-! ### What the stages may touch -/

/-- Nothing but the roster, the control link, the receive queues, the chain ports and the node counters has changed. -/
def Beside (s t : State) : Prop :=
  t = { s with roster := t.roster, control := t.control, queues := t.queues, ports := t.ports, counters := t.counters }

/-- Beside that, no entry but one has changed. -/
structure Touches (i : Index) (s t : State) : Prop where
  beside : Beside s t
  others : ∀ j, j ≠ i → t.entry j = s.entry j

theorem Touches.refl (i : Index) (s : State) : Touches i s s := ⟨rfl, fun _ _ => rfl⟩

theorem Touches.trans (h : Touches i s t) (h' : Touches i t u) : Touches i s u where
  beside := by
    have hb := h'.beside
    have ha := h.beside
    rw [Beside] at ha
    rw [ha] at hb
    exact hb
  others := fun j hj => (h'.others j hj).trans (h.others j hj)

theorem touches_of_roster (h : Beside s t) (hroster : t.roster = s.roster) : Touches i s t := ⟨h, fun j _ => entry_congr hroster j⟩

theorem touches_setEntry (i : Index) (e : Entry) (s : State) : Touches i s (s.setEntry i e) := ⟨rfl, fun _ hj => entry_setEntry_ne s e hj.symm⟩

theorem touches_notify (i : Index) (n : Notice) (s : State) : Touches i s (notify n s) := touches_of_roster rfl rfl

theorem touches_countWith (i : Index) (f : NodeCounters → NodeCounters) (s : State) : Touches i s (s.countWith f) := touches_of_roster rfl rfl

theorem deposit_eq (q : Fin 4) (r : Record) (s : State) : ∃ qs k, deposit q r s = { s with queues := qs, control := k } := by
  simp only [deposit]
  repeat' split
  all_goals exact ⟨_, _, rfl⟩

theorem touches_deposit (i : Index) (q : Fin 4) (r : Record) (s : State) : Touches i s (deposit q r s) := by
  obtain ⟨qs, k, h⟩ := deposit_eq q r s
  exact h ▸ touches_of_roster rfl rfl

theorem touches_updatePort (i : Index) (p : PortId) (f : Port → Port) (s : State) : Touches i s (s.updatePort p f) := by
  obtain ⟨ps, h⟩ := updatePort_eq s p f
  exact h ▸ touches_of_roster rfl rfl

theorem sendToPeer_eq (n : Option Byte) (b : ChainBody) (s : State) : ∃ ps, sendToPeer n b s = { s with ports := ps } := by
  unfold sendToPeer
  repeat' split
  · exact ⟨_, rfl⟩
  · exact ⟨_, rfl⟩
  · exact updatePort_eq s _ _

theorem touches_sendToPeer (i : Index) (n : Option Byte) (b : ChainBody) (s : State) : Touches i s (sendToPeer n b s) := by
  obtain ⟨ps, h⟩ := sendToPeer_eq n b s
  exact h ▸ touches_of_roster rfl rfl

/-! ### Two states that a stage does not tell apart -/

/-- The records and the notices of an arrival depend on the queues, their settings and the control link alone. -/
theorem deposit_congr (q : Fin 4) (r : Record) (hqueues : t.queues = s.queues) (himage : t.image = s.image) (hcontrol : t.control = s.control) :
    (deposit q r t).queues = (deposit q r s).queues ∧ (deposit q r t).control = (deposit q r s).control := by
  have hrx : t.rx q = s.rx q := by rw [State.rx, hqueues, State.rx]
  have hcfg : t.queueSetting q = s.queueSetting q := by rw [State.queueSetting, himage, State.queueSetting]
  simp only [deposit, hrx, hcfg]
  split
  · split <;> simp [State.setRx, notify, hqueues, hcontrol]
  · split <;> simp [State.setRx, notify, hqueues, hcontrol]

theorem updatePort_ports_congr (p : PortId) (f : Port → Port) (hports : t.ports = s.ports) : (t.updatePort p f).ports = (s.updatePort p f).ports := by
  cases p <;> simp [State.updatePort, State.setPort, State.port, hports]

theorem portFacing_congr (himage : t.image = s.image) (n : Byte) : t.portFacing n = s.portFacing n := by
  rw [State.portFacing, himage, State.portFacing]

theorem sendToPeer_ports_congr (n : Option Byte) (b : ChainBody) (hports : t.ports = s.ports) (himage : t.image = s.image) :
    (sendToPeer n b t).ports = (sendToPeer n b s).ports := by
  unfold sendToPeer
  cases n with
  | none => exact hports
  | some n =>
    simp only [portFacing_congr himage]
    cases s.portFacing n with
    | none => exact hports
    | some p =>
      simp only [sendHandover, himage]
      exact updatePort_ports_congr p _ hports

/-! ### Classification (R67 to R71) -/

section
variable {p : Position} {e : Entry} {m c : Nat} {bytes : List Byte} {b : Burst}

/-- A heard burst goes by its length, its content and its sequence. -/
theorem classify_hears (h : p.Hears bytes b) (e : Entry) (m c : Nat) : classify p e (.passed m c bytes) =
    if codeBytes e.granted < b.length ∨ b.length ≠ b.received then .lengthError b
    else if b.length = 0 ∨ b.kind = kindJoin then .idle b
    else if e.lastSeq = some b.seq then .repeated b
    else .accepted b := by
  simp only [classify, h.reads]
  exact if_neg (by simp [h.live, h.car])

theorem heard_classify (h : p.Hears bytes b) (e : Entry) (m c : Nat) : (classify p e (.passed m c bytes)).heard = some b := by
  rw [classify_hears h]
  repeat' split
  all_goals rfl

theorem classify_accepts (h : p.Hears bytes b) (ha : e.Accepts b) : classify p e (.passed m c bytes) = .accepted b := by
  have hlen := ha.allowed
  rw [classify_hears h, if_neg (by simp [ha.whole, Nat.not_lt.mpr (ha.whole ▸ hlen)]), if_neg (by simpa [kindJoin] using ha.carries),
    if_neg ha.new]

theorem classify_not_accepts (h : p.Hears bytes b) (ha : ¬ e.Accepts b) (b' : Burst) : classify p e (.passed m c bytes) ≠ .accepted b' := by
  rw [classify_hears h]
  split
  · nofun
  split
  · nofun
  split
  · nofun
  · next hlen hkind hseq =>
    obtain ⟨hallowed, hwhole⟩ := not_or.mp hlen
    exact absurd ⟨Nat.not_lt.mp hallowed, not_not.mp hwhole, not_or.mp hkind, hseq⟩ ha

theorem accepts_iff : e.Accepts b ↔ b.length ≤ codeBytes e.granted ∧ b.length = b.received ∧ b.length ≠ 0 ∧ b.kind ≠ 62 ∧ e.lastSeq ≠ some b.seq :=
  ⟨fun ⟨h1, h2, ⟨h3, h4⟩, h5⟩ => ⟨h1, h2, h3, h4, h5⟩, fun ⟨h1, h2, h3, h4, h5⟩ => ⟨h1, h2, ⟨h3, h4⟩, h5⟩⟩

/-- The results of a window in which the position's car is not heard. -/
def Missed (p : Position) (r : UplinkResult) : Prop :=
  r = .nothing ∨ r = .checkFailed ∨ ∃ m c bytes b, r = .passed m c bytes ∧ Burst.read bytes = some b ∧ b.car ≠ p.car

theorem classify_wrongCar (hread : Burst.read bytes = some b) (h : p.stale = true ∨ b.car ≠ p.car) :
    classify p e (.passed m c bytes) = .wrongCar := by
  simp only [classify, hread]
  exact if_pos h

theorem classify_missed {r : UplinkResult} (h : Missed p r) (e : Entry) : (classify p e r).heard = none := by
  rcases h with rfl | rfl | ⟨m, c, bytes, b, rfl, hread, hcar⟩
  · rfl
  · rfl
  · rw [classify_wrongCar hread (.inr hcar)]
    rfl

end

/-! ### Stage 2: routing and the survey -/

theorem surveyReport_rests {p : Position} (h : (∀ v, p.sent ≠ .pattern v) ∨ (s.entry p.index).survey = false) (round : RoundNumber)
    (echo : List Byte) (f : Nat × Nat) : surveyReport round p echo f s = s := by
  unfold surveyReport
  split
  · next v hv =>
    rcases h with h | h
    · exact absurd hv (h v)
    · exact if_neg (by rw [h]; decide)
  · rfl

theorem surveyReport_reports {p : Position} {v : List Byte} (hsent : p.sent = .pattern v) (h : (s.entry p.index).survey = true)
    (round : RoundNumber) (echo : List Byte) (f : Nat × Nat) : surveyReport round p echo f s =
      deposit s.image.queues.survey (surveyRecord s.image.node.node round p v echo f) s := by
  simp only [surveyReport, hsent, h, if_true]

theorem touches_surveyReport (round : RoundNumber) (p : Position) (echo : List Byte) (f : Nat × Nat) (s : State) :
    Touches i s (surveyReport round p echo f s) := by
  unfold surveyReport
  repeat' split
  · exact touches_deposit i _ _ s
  · exact .refl i s
  · exact .refl i s

theorem touches_routeBurst (round : RoundNumber) (p : Position) (b : Burst) (f : Nat × Nat) (s : State) :
    Touches i s (routeBurst round p b f s) := by
  simp only [routeBurst]
  split
  · exact touches_deposit i _ _ s
  · exact .refl i s
  · split
    · exact touches_updatePort i _ _ s
    · exact touches_deposit i _ _ s

@[simp] theorem roster_surveyReport (round : RoundNumber) (p : Position) (echo : List Byte) (f : Nat × Nat) (s : State) :
    (surveyReport round p echo f s).roster = s.roster := by
  unfold surveyReport
  repeat' split
  all_goals simp

@[simp] theorem roster_routeBurst (round : RoundNumber) (p : Position) (b : Burst) (f : Nat × Nat) (s : State) :
    (routeBurst round p b f s).roster = s.roster := by
  simp only [routeBurst]
  repeat' split
  all_goals simp

@[simp] theorem counters_surveyReport (round : RoundNumber) (p : Position) (echo : List Byte) (f : Nat × Nat) (s : State) :
    (surveyReport round p echo f s).counters = s.counters := by
  unfold surveyReport
  repeat' split
  all_goals simp

@[simp] theorem counters_routeBurst (round : RoundNumber) (p : Position) (b : Burst) (f : Nat × Nat) (s : State) :
    (routeBurst round p b f s).counters = s.counters := by
  simp only [routeBurst]
  repeat' split
  all_goals simp

/-- The sequence of an accepted burst is kept (R71). -/
def routedTo : WindowOutcome → Entry → Entry
  | .accepted b, e => { e with lastSeq := some b.seq }
  | _, e => e

theorem stageRoute_accepted (round : RoundNumber) (p : Position) (b : Burst) (f : Nat × Nat) (s : State) :
    stageRoute round p (.accepted b) f s =
      if b.kind = kindEcho ∧ (s.entry p.index).survey then
        surveyReport round p b.payload f (s.setEntry p.index { s.entry p.index with lastSeq := some b.seq })
      else surveyReport round p [] f (routeBurst round p b f (s.setEntry p.index { s.entry p.index with lastSeq := some b.seq })) := rfl

theorem stageRoute_heard {o : WindowOutcome} {b : Burst} (hnot : ∀ b', o ≠ .accepted b') (h : o.heard = some b) (round : RoundNumber)
    (p : Position) (f : Nat × Nat) (s : State) : stageRoute round p o f s = surveyReport round p [] f s := by
  unfold stageRoute
  split
  · next b' => exact absurd rfl (hnot b')
  · rw [h]
    rfl

theorem stageRoute_missed {o : WindowOutcome} (h : o.heard = none) (round : RoundNumber)
    (p : Position) (f : Nat × Nat) (s : State) : stageRoute round p o f s = surveyReport round p [] (0, 0) s := by
  unfold stageRoute
  split
  · cases h
  · rw [h]
    rfl

/-- A window that is heard and not accepted, or not heard, makes at most a survey report. -/
theorem stageRoute_not_accepted {o : WindowOutcome} (hnot : ∀ b', o ≠ .accepted b') (round : RoundNumber) (p : Position) (f : Nat × Nat)
    (s : State) : ∃ f', stageRoute round p o f s = surveyReport round p [] f' s := by
  cases h : o.heard with
  | none => exact ⟨_, stageRoute_missed h round p f s⟩
  | some b => exact ⟨_, stageRoute_heard hnot h round p f s⟩

theorem routedTo_not_accepted {o : WindowOutcome} (hnot : ∀ b', o ≠ .accepted b') (e : Entry) : routedTo o e = e := by
  cases o with
  | accepted b => exact absurd rfl (hnot b)
  | _ => rfl

theorem entry_stageRoute (round : RoundNumber) (p : Position) (o : WindowOutcome) (f : Nat × Nat) (s : State) :
    (stageRoute round p o f s).entry p.index = routedTo o (s.entry p.index) := by
  by_cases hnot : ∀ b', o ≠ .accepted b'
  · obtain ⟨f', h⟩ := stageRoute_not_accepted hnot round p f s
    rw [h, routedTo_not_accepted hnot]
    exact entry_congr (by simp) _
  · obtain ⟨b, hb⟩ := not_forall.mp hnot
    rw [not_not.mp hb, stageRoute_accepted]
    split
    · exact (entry_congr (roster_surveyReport ..) _).trans (entry_setEntry_self ..)
    · exact (entry_congr ((roster_surveyReport ..).trans (roster_routeBurst ..)) _).trans (entry_setEntry_self ..)

theorem counters_stageRoute (round : RoundNumber) (p : Position) (o : WindowOutcome) (f : Nat × Nat) (s : State) :
    (stageRoute round p o f s).counters = s.counters := by
  by_cases hnot : ∀ b', o ≠ .accepted b'
  · obtain ⟨f', h⟩ := stageRoute_not_accepted hnot round p f s
    rw [h, counters_surveyReport]
  · obtain ⟨b, hb⟩ := not_forall.mp hnot
    rw [not_not.mp hb, stageRoute_accepted]
    split <;> simp

theorem touches_stageRoute (round : RoundNumber) (p : Position) (o : WindowOutcome) (f : Nat × Nat) (s : State) :
    Touches p.index s (stageRoute round p o f s) := by
  by_cases hnot : ∀ b', o ≠ .accepted b'
  · obtain ⟨f', h⟩ := stageRoute_not_accepted hnot round p f s
    exact h ▸ touches_surveyReport round p [] f' s
  · obtain ⟨b, hb⟩ := not_forall.mp hnot
    rw [not_not.mp hb, stageRoute_accepted]
    split
    · exact (touches_setEntry ..).trans (touches_surveyReport ..)
    · exact (touches_setEntry ..).trans ((touches_routeBurst ..).trans (touches_surveyReport ..))

end

end Sys2Proof.Proofs
end

section
/-!
PROOFS. The assessor's stage of the close of a window: score, class proposal, candidate and the handover trigger (R51 to R62).
-/
namespace Sys2Proof.Proofs
open Sys2Proof.Machine

section
variable {s t u : State} {i : Index} {heard : Option (Burst × Nat × Nat)}

/-! ### By the state of the entry (R51) -/

theorem assessWindow_charged (h : (s.entry i).state = .joining ∨ (s.entry i).state = .offering) :
    assessWindow i heard s = s.setEntry i ((s.entry i).updateScore (sampleOf (heard.map Prod.snd))) := by
  rcases h with h | h <;> simp only [assessWindow, h]

theorem assessWindow_rests (h : (s.entry i).state ≠ .joining) (h' : (s.entry i).state ≠ .offering) (h'' : (s.entry i).state ≠ .active) :
    assessWindow i heard s = s := by
  cases hx : (s.entry i).state with
  | joining => exact absurd hx h
  | offering => exact absurd hx h'
  | active => exact absurd hx h''
  | _ => simp only [assessWindow, hx]

/-- An ACTIVE entry scored and its class proposed (R54 to R56). -/
def scoredActive (l : LinkGroup) (heard : Option (Burst × Nat × Nat)) (e : Entry) : Entry :=
  (e.updateScore (sampleOf (heard.map Prod.snd))).propose l

theorem assessWindow_active_missed (h : (s.entry i).state = .active) :
    assessWindow i none s = s.setEntry i (scoredActive s.live.link none (s.entry i)) := by
  simp only [assessWindow, h]
  rfl

/-- The candidate of an ACTIVE entry of which a window has been heard, before the lead is acted on (R60, R61). -/
def trackedActive (s : State) (b : Burst) (f : Nat × Nat) (e : Entry) : Entry :=
  (scoredActive s.live.link (some (b, f)) e).track s.live.link (s.neighbourReport b)

theorem assessWindow_active_heard {b : Burst} {f : Nat × Nat} (h : (s.entry i).state = .active) :
    assessWindow i (some (b, f)) s =
      if (s.neighbourReport b).isSome then triggerHandover i (s.setEntry i (trackedActive s b f (s.entry i)))
      else s.setEntry i (trackedActive s b f (s.entry i)) := by
  simp only [assessWindow, h]
  rfl

/-! ### The handover trigger (R62, R108) -/

theorem triggerHandover_below (h : (s.entry i).leadCount < s.live.link.leadRounds) : triggerHandover i s = s :=
  if_neg (Nat.not_le.mpr h)

theorem triggerHandover_disabled (h : s.live.link.leadRounds ≤ (s.entry i).leadCount) (hd : s.live.handover.enable = false) :
    triggerHandover i s = s.setEntry i { s.entry i with leadCount := s.live.link.leadRounds } :=
  (if_pos h).trans (if_neg (by rw [hd]; decide))

theorem triggerHandover_enabled (h : s.live.link.leadRounds ≤ (s.entry i).leadCount) (hd : s.live.handover.enable = true) :
    triggerHandover i s = requestHandover i (s.setEntry i { s.entry i with leadCount := 0 }) :=
  (if_pos h).trans (if_pos hd)

theorem requestHandover_offers {n : Byte} {p : PortId} (hc : (s.entry i).candidate = some n) (hp : s.portFacing n = some p)
    (hcan : s.canOffer p = true) : requestHandover i s =
      notify (.handoverOffered (s.entry i).car i n (s.entry i).rate (s.entry i).granted)
        ((sendHandover p n (.offer (s.entry i).offerBody) s).setEntry i
          { s.entry i with state := .offering, peer := some n, phaseTimer := some s.live.handover.offerTimeout }) := by
  simp only [requestHandover, hc, hp, hcan, if_true]

theorem requestHandover_not {n : Byte} {p : PortId} (hc : (s.entry i).candidate = some n) (hp : s.portFacing n = some p)
    (hcan : s.canOffer p = false) : requestHandover i s = s.countWith fun c => { c with notStarted := count16 c.notStarted } := by
  simp only [requestHandover, hc, hp, hcan, Bool.false_eq_true, if_false]

/-! ### The trigger on an entry whose candidate is a neighbour -/

@[simp] theorem setEntry_setEntry (s : State) (i : Index) (e e' : Entry) : (s.setEntry i e).setEntry i e' = s.setEntry i e' := by
  simp [State.setEntry]

theorem sendHandover_setEntry (p : PortId) (n : Byte) (b : ChainBody) (e : Entry) (s : State) :
    sendHandover p n b (s.setEntry i e) = (sendHandover p n b s).setEntry i e := by
  cases p <;> rfl

/-- An entry as the handover trigger leaves it (R62, R108). -/
def leadTo (l : LinkGroup) (h : HandoverGroup) (can : Bool) (n : Byte) (e : Entry) : Entry :=
  if e.leadCount < l.leadRounds then e
  else if h.enable = false then { e with leadCount := l.leadRounds }
  else if can then { e with state := .offering, leadCount := 0, peer := some n, phaseTimer := some h.offerTimeout }
  else { e with leadCount := 0 }

section
variable {e : Entry} {n : Byte} {port : PortId}

theorem triggered_below (h : e.leadCount < s.live.link.leadRounds) : triggerHandover i (s.setEntry i e) = s.setEntry i e :=
  triggerHandover_below (by rw [entry_setEntry_self]; exact h)

section
variable (h : s.live.link.leadRounds ≤ e.leadCount)
include h

theorem lead_setEntry : (s.setEntry i e).live.link.leadRounds ≤ ((s.setEntry i e).entry i).leadCount := by
  rw [entry_setEntry_self]
  exact h

theorem triggered_disabled (hd : s.live.handover.enable = false) :
    triggerHandover i (s.setEntry i e) = s.setEntry i { e with leadCount := s.live.link.leadRounds } := by
  refine (triggerHandover_disabled (lead_setEntry h) hd).trans ?_
  rw [entry_setEntry_self, setEntry_setEntry]
  rfl

theorem triggered_enabled (hd : s.live.handover.enable = true) :
    triggerHandover i (s.setEntry i e) = requestHandover i (s.setEntry i { e with leadCount := 0 }) := by
  refine (triggerHandover_enabled (lead_setEntry h) hd).trans ?_
  rw [entry_setEntry_self, setEntry_setEntry]

theorem triggered_offers (hd : s.live.handover.enable = true) (hc : e.candidate = some n)
    (hp : s.portFacing n = some port) (hcan : s.canOffer port = true) : triggerHandover i (s.setEntry i e) =
      notify (.handoverOffered e.car i n e.rate e.granted) ((sendHandover port n (.offer e.offerBody) s).setEntry i
        { e with state := .offering, leadCount := 0, peer := some n, phaseTimer := some s.live.handover.offerTimeout }) := by
  refine (triggered_enabled h hd).trans ((requestHandover_offers (s := s.setEntry i { e with leadCount := 0 }) (p := port)
    ((congrArg Entry.candidate (entry_setEntry_self ..)).trans hc) hp hcan).trans ?_)
  rw [entry_setEntry_self, sendHandover_setEntry, setEntry_setEntry]
  rfl

theorem triggered_not (hd : s.live.handover.enable = true) (hc : e.candidate = some n)
    (hp : s.portFacing n = some port) (hcan : s.canOffer port = false) : triggerHandover i (s.setEntry i e) =
      { s.setEntry i { e with leadCount := 0 } with
        counters := { s.counters with notStarted := min (s.counters.notStarted + 1) 65535 } } := by
  exact (triggered_enabled h hd).trans (requestHandover_not (s := s.setEntry i { e with leadCount := 0 }) (p := port)
    ((congrArg Entry.candidate (entry_setEntry_self ..)).trans hc) hp hcan)

end

/-- What the trigger leaves: the entry, and the node's count of handovers not started. -/
theorem triggered_spec (hc : e.candidate = some n) (hp : s.portFacing n = some port) :
    (triggerHandover i (s.setEntry i e)).entry i = leadTo s.live.link s.live.handover (s.canOffer port) n e ∧
    (triggerHandover i (s.setEntry i e)).counters = { s.counters with
      notStarted := if s.live.link.leadRounds ≤ e.leadCount ∧ s.live.handover.enable = true ∧ s.canOffer port = false then
        min (s.counters.notStarted + 1) 65535 else s.counters.notStarted } := by
  by_cases hlead : e.leadCount < s.live.link.leadRounds
  · rw [triggered_below hlead, entry_setEntry_self]
    simp [leadTo, hlead, Nat.not_le.mpr hlead]
  · have hlead' := Nat.not_lt.mp hlead
    cases hd : s.live.handover.enable with
    | false =>
      rw [triggered_disabled hlead' hd, entry_setEntry_self]
      simp [leadTo, hlead, hd]
    | true =>
      cases hcan : s.canOffer port with
      | false =>
        rw [triggered_not hlead' hd hc hp hcan]
        exact ⟨(entry_setEntry_self s i _).trans (by simp [leadTo, hlead, hd]), by simp [hlead']⟩
      | true =>
        rw [triggered_offers hlead' hd hc hp hcan, entry_notify, entry_setEntry_self]
        simp [leadTo, hlead, hd]

end

/-! ### What the assessor changes of an entry -/

theorem propose_eq (l : LinkGroup) (e : Entry) : e.propose l = { e with wanted := (e.propose l).wanted, upCount := (e.propose l).upCount } := by
  unfold Entry.propose
  repeat' split
  all_goals rfl

theorem scoredActive_eq (l : LinkGroup) (heard : Option (Burst × Nat × Nat)) (e : Entry) : scoredActive l heard e = { e with
    score := moveScore e.score (sampleOf (heard.map Prod.snd))
    wanted := (scoredActive l heard e).wanted, upCount := (scoredActive l heard e).upCount } :=
  propose_eq l (e.updateScore (sampleOf (heard.map Prod.snd)))

theorem neighbourReport_none {b : Burst} (h : b.nbrValid = false ∨ s.portFacing b.nbrNode = none) : s.neighbourReport b = none :=
  if_neg (by rcases h with h | h <;> simp [h])

theorem neighbourReport_some {b : Burst} {port : PortId} (h : b.nbrValid = true) (hp : s.portFacing b.nbrNode = some port) :
    s.neighbourReport b = some (b.nbrNode, 4 * min b.nbrMargin 63) :=
  if_pos ⟨h, by rw [hp]; rfl⟩

/-- What the assessor may change of an entry. -/
structure Assessed (e' e : Entry) : Prop where
  kept : e' = { e with
    score := e'.score, wanted := e'.wanted, upCount := e'.upCount, candidate := e'.candidate, nbrScore := e'.nbrScore
    leadCount := e'.leadCount, state := e'.state, peer := e'.peer, phaseTimer := e'.phaseTimer }
  quiet : e.state ≠ .active → e'.state = e.state ∧ e'.peer = e.peer ∧ e'.phaseTimer = e.phaseTimer
  active : e.state = .active → e'.state = .active ∨ e'.state = .offering

/-- An entry of which a window has been closed, before its lead is acted on. -/
theorem assessed_scored {e : Entry} (hstate : e.state = .active) (l : LinkGroup) (heard : Option (Burst × Nat × Nat)) :
    Assessed (scoredActive l heard e) e := by
  rw [scoredActive_eq]
  exact ⟨rfl, fun hne => absurd hstate hne, fun _ => .inl hstate⟩

theorem assessed_tracked {e : Entry} (hstate : e.state = .active) (l : LinkGroup) (heard : Option (Burst × Nat × Nat))
    (r : Option (Byte × Nat)) : Assessed ((scoredActive l heard e).track l r) e := by
  rw [scoredActive_eq]
  cases r <;> exact ⟨rfl, fun hne => absurd hstate hne, fun _ => .inl hstate⟩

theorem assessed_lead {e' e : Entry} (h : Assessed e' e) (hstate : e.state = .active) (l : LinkGroup) (g : HandoverGroup) (can : Bool) (n : Byte) :
    Assessed (leadTo l g can n e') e := by
  unfold leadTo
  split
  · exact h
  split
  · exact ⟨by rw [h.kept], fun hne => absurd hstate hne, h.active⟩
  split
  · exact ⟨by rw [h.kept], fun hne => absurd hstate hne, fun _ => .inr rfl⟩
  · exact ⟨by rw [h.kept], fun hne => absurd hstate hne, h.active⟩

theorem score_track (l : LinkGroup) (r : Option (Byte × Nat)) (e : Entry) : (e.track l r).score = e.score := by
  cases r <;> rfl

theorem score_lead (l : LinkGroup) (g : HandoverGroup) (can : Bool) (n : Byte) (e : Entry) : (leadTo l g can n e).score = e.score := by
  unfold leadTo
  repeat' split
  all_goals rfl

theorem score_scoredActive (l : LinkGroup) (heard : Option (Burst × Nat × Nat)) (e : Entry) :
    (scoredActive l heard e).score = moveScore e.score (sampleOf (heard.map Prod.snd)) := by rw [scoredActive_eq]

/-- A report that is taken is of a neighbour, which the entry's candidate then is (R59, R60). -/
theorem tracked_of_report {b : Burst} (h : (s.neighbourReport b).isSome = true) (l : LinkGroup) (e : Entry) :
    ∃ port, s.portFacing b.nbrNode = some port ∧ (e.track l (s.neighbourReport b)).candidate = some b.nbrNode := by
  unfold State.neighbourReport at h ⊢
  split
  · next hreport =>
    obtain ⟨port, hport⟩ := Option.isSome_iff_exists.mp hreport.2
    exact ⟨port, hport, rfl⟩
  · next hnot => rw [if_neg hnot] at h; cases h

/-- An ACTIVE entry of which a window has been heard, all that the assessor does to it done. -/
theorem assessWindow_active_spec {b : Burst} {f : Nat × Nat} (h : (s.entry i).state = .active) :
    ((s.neighbourReport b).isSome = false ∧ assessWindow i (some (b, f)) s = s.setEntry i (trackedActive s b f (s.entry i))) ∨
    ∃ port, s.portFacing b.nbrNode = some port ∧ (trackedActive s b f (s.entry i)).candidate = some b.nbrNode ∧
      assessWindow i (some (b, f)) s = triggerHandover i (s.setEntry i (trackedActive s b f (s.entry i))) := by
  cases hreport : (s.neighbourReport b).isSome with
  | false => exact .inl ⟨rfl, (assessWindow_active_heard h).trans (if_neg (by rw [hreport]; decide))⟩
  | true =>
    obtain ⟨port, hport, hcandidate⟩ := tracked_of_report hreport s.live.link (scoredActive s.live.link (some (b, f)) (s.entry i))
    exact .inr ⟨port, hport, hcandidate, (assessWindow_active_heard h).trans (if_pos hreport)⟩

/-- The three things the assessor's stage leaves of an entry: what may have changed, its score, and the rest of the state. -/
theorem assessWindow_spec (i : Index) (heard : Option (Burst × Nat × Nat)) (s : State) :
    Assessed ((assessWindow i heard s).entry i) (s.entry i) ∧
    ((assessWindow i heard s).entry i).score =
      (if (s.entry i).state.charged then moveScore (s.entry i).score (sampleOf (heard.map Prod.snd)) else (s.entry i).score) ∧
    (assessWindow i heard s).counters = { s.counters with notStarted := (assessWindow i heard s).counters.notStarted } := by
  by_cases hactive : (s.entry i).state = .active
  · have hcharged : (s.entry i).state.charged = true := by rw [hactive]; rfl
    rw [if_pos hcharged]
    cases heard with
    | none =>
      rw [assessWindow_active_missed hactive, entry_setEntry_self]
      exact ⟨assessed_scored hactive _ _, score_scoredActive .., rfl⟩
    | some x =>
      obtain ⟨b, f⟩ := x
      have htracked := assessed_tracked hactive s.live.link (some (b, f)) (s.neighbourReport b)
      have hscore : (trackedActive s b f (s.entry i)).score = moveScore (s.entry i).score (sampleOf (some f)) :=
        (score_track ..).trans (score_scoredActive ..)
      rcases assessWindow_active_spec (b := b) (f := f) hactive with ⟨-, heq⟩ | ⟨port, hport, hcandidate, heq⟩
      · rw [heq, entry_setEntry_self]
        exact ⟨htracked, hscore, rfl⟩
      · obtain ⟨hentry, hcounters⟩ := triggered_spec (i := i) hcandidate hport
        rw [heq, hentry, hcounters]
        exact ⟨assessed_lead htracked hactive _ _ _ _, (score_lead ..).trans hscore, rfl⟩
  · by_cases hcharged : (s.entry i).state = .joining ∨ (s.entry i).state = .offering
    · rw [assessWindow_charged hcharged, entry_setEntry_self, if_pos (by rcases hcharged with h | h <;> rw [h] <;> rfl)]
      exact ⟨⟨rfl, fun _ => ⟨rfl, rfl, rfl⟩, fun h => absurd h hactive⟩, rfl, rfl⟩
    · obtain ⟨hj, ho⟩ := not_or.mp hcharged
      have hnot : (s.entry i).state.charged = false := by
        cases hstate : (s.entry i).state with
        | joining => exact absurd hstate hj
        | active => exact absurd hstate hactive
        | offering => exact absurd hstate ho
        | _ => rfl
      rw [assessWindow_rests hj ho hactive, if_neg (by rw [hnot]; decide)]
      exact ⟨⟨rfl, fun _ => ⟨rfl, rfl, rfl⟩, fun h => absurd h hactive⟩, rfl, rfl⟩

theorem touches_triggered {e : Entry} {n : Byte} {port : PortId} (hc : e.candidate = some n) (hp : s.portFacing n = some port) :
    Touches i s (triggerHandover i (s.setEntry i e)) := by
  by_cases hlead : e.leadCount < s.live.link.leadRounds
  · rw [triggered_below hlead]
    exact touches_setEntry i e s
  · have hlead' := Nat.not_lt.mp hlead
    cases hd : s.live.handover.enable with
    | false =>
      rw [triggered_disabled hlead' hd]
      exact touches_setEntry i _ s
    | true =>
      cases hcan : s.canOffer port with
      | false =>
        rw [triggered_not hlead' hd hc hp hcan]
        exact (touches_setEntry i _ s).trans (touches_countWith i (fun c => { c with notStarted := min (c.notStarted + 1) 65535 }) _)
      | true =>
        rw [triggered_offers hlead' hd hc hp hcan]
        exact (touches_updatePort i port _ s).trans ((touches_setEntry i _ _).trans (touches_notify i _ _))

theorem touches_assessWindow (i : Index) (heard : Option (Burst × Nat × Nat)) (s : State) : Touches i s (assessWindow i heard s) := by
  by_cases hactive : (s.entry i).state = .active
  · cases heard with
    | none => exact assessWindow_active_missed hactive ▸ touches_setEntry i _ s
    | some x =>
      rcases assessWindow_active_spec (b := x.1) (f := x.2) hactive with ⟨-, heq⟩ | ⟨port, hport, hcandidate, heq⟩
      · exact heq ▸ touches_setEntry i _ s
      · exact heq ▸ touches_triggered hcandidate hport
  · by_cases hcharged : (s.entry i).state = .joining ∨ (s.entry i).state = .offering
    · exact assessWindow_charged hcharged ▸ touches_setEntry i _ s
    · obtain ⟨hj, ho⟩ := not_or.mp hcharged
      rw [assessWindow_rests hj ho hactive]
      exact .refl i s

/-- The assessor leaves the control link and the ports but where it starts a handover: with no report of a neighbour it writes the entry
alone. -/
theorem assessWindow_plain (h : (s.entry i).state ≠ .active ∨ ∀ x, heard = some x → s.neighbourReport x.1 = none) :
    assessWindow i heard s = s.setEntry i ((assessWindow i heard s).entry i) := by
  by_cases hactive : (s.entry i).state = .active
  · cases heard with
    | none => rw [assessWindow_active_missed hactive, entry_setEntry_self]
    | some x =>
      have hreport := (h.resolve_left (not_not.mpr hactive)) x rfl
      have heq : assessWindow i (some x) s = s.setEntry i (trackedActive s x.1 x.2 (s.entry i)) :=
        (assessWindow_active_heard hactive).trans (if_neg (by rw [hreport]; decide))
      rw [heq, entry_setEntry_self]
  · by_cases hcharged : (s.entry i).state = .joining ∨ (s.entry i).state = .offering
    · rw [assessWindow_charged hcharged, entry_setEntry_self]
    · obtain ⟨hj, ho⟩ := not_or.mp hcharged
      rw [assessWindow_rests hj ho hactive, setEntry_entry]

end

end Sys2Proof.Proofs
end

section
/-!
PROOFS. The last stages of the close of a window, the command pool's and the roster's, and the stages put together (R72).
-/
namespace Sys2Proof.Proofs
open Sys2Proof.Machine

section
variable {s t : State} {i : Index} {p : Position} {k : Command} {ack : Option Seq}

/-! ### Stage 4: the command pool (R94, R95) -/

theorem stagePool_rests (h : ∀ c ∈ (s.entry p.index).commands, p.sent ≠ .command c.number) : stagePool p ack s = s := by
  unfold stagePool
  split
  · next n hn =>
    rw [find_number_eq_none fun c hc heq => h c hc (hn.trans (congrArg _ heq.symm))]
  · rfl

theorem stagePool_nothing (h : p.sent = .nothing) : stagePool p ack s = s := by simp only [stagePool, h]

/-- The commands of a list but one (R94, R95). -/
def otherCommands (k : Command) (e : Entry) : List Command := e.commands.filter fun c => decide (c.number ≠ k.number)

theorem find_number_unique {cs : List Command} (hk : k ∈ cs) (hone : ∀ c ∈ cs, c.number = k.number → c = k) :
    (cs.find? fun c => c.number == k.number) = some k := by
  cases h : cs.find? fun c => c.number == k.number with
  | none => exact absurd (beq_self_eq_true k.number) (List.find?_eq_none.mp h k hk)
  | some c => rw [hone c (List.mem_of_find?_eq_some h) (by simpa using List.find?_some h)]

theorem deliverCommand_eq (i : Index) (k : Command) (s : State) : deliverCommand i k s =
    notifyAll (if k.notify then [.delivered k.number (s.entry i).car (k.attempts + 1)] else []) (s.setEntry i
      { s.entry i with commands := otherCommands k (s.entry i), pace := s.live.downlink.pacing }) := by
  rw [deliverCommand, without_eq]
  split <;> rfl

section
variable (hsent : p.sent = .command k.number) (hk : k ∈ (s.entry p.index).commands)
  (hone : ∀ c ∈ (s.entry p.index).commands, c.number = k.number → c = k)
include hsent hk hone

theorem stagePool_carried : stagePool p ack s =
    if ack.isSome ∧ ack = k.seqUsed then deliverCommand p.index k s else failSend p.index k s := by
  simp only [stagePool, hsent, find_number_unique hk hone]

theorem stagePool_delivers (hack : ack.isSome = true) (h : ack = k.seqUsed) : stagePool p ack s =
    notifyAll (if k.notify then [.delivered k.number (s.entry p.index).car (k.attempts + 1)] else []) (s.setEntry p.index
      { s.entry p.index with commands := otherCommands k (s.entry p.index), pace := s.live.downlink.pacing }) := by
  rw [stagePool_carried hsent hk hone, if_pos ⟨hack, h⟩, deliverCommand_eq]

/-- Without its acknowledgement the send has failed. -/
theorem stagePool_fails (hack : ack.isSome = false ∨ ack ≠ k.seqUsed) : stagePool p ack s = failSend p.index k s := by
  rw [stagePool_carried hsent hk hone, if_neg]
  rintro ⟨h, h'⟩
  rcases hack with hno | hno
  · rw [hno] at h; cases h
  · exact hno h'

end

theorem failSend_again (h : k.attempts + 1 < s.live.downlink.retryLimit) : failSend i k s = s.setEntry i { s.entry i with
    commands := (s.entry i).commands.map fun c => if c.number = k.number then { c with attempts := c.attempts + 1 } else c } :=
  if_neg (Nat.not_le.mpr h)

theorem failSend_ends (h : s.live.downlink.retryLimit ≤ k.attempts + 1) : failSend i k s =
    notify (.undelivered k.number (s.entry i).car .noAck k.sent) (s.setEntry i
      { s.entry i with commands := otherCommands k (s.entry i), pace := s.live.downlink.pacing }) := by
  rw [failSend, if_pos h, without_eq]
  rfl

/-- What the pool may change of an entry. -/
def Pooled (e' e : Entry) : Prop := e' = { e with commands := e'.commands, pace := e'.pace }

/-- The pool's stage writes one entry and sends notices. -/
theorem stagePool_spec (p : Position) (ack : Option Seq) (s : State) : ∃ e ns,
    stagePool p ack s = notifyAll ns (s.setEntry p.index e) ∧ Pooled e (s.entry p.index) := by
  unfold stagePool
  split
  · split
    · exact ⟨s.entry p.index, [], by rw [setEntry_entry]; rfl, rfl⟩
    · next k _ =>
      split
      · exact ⟨_, _, deliverCommand_eq p.index k s, rfl⟩
      · by_cases hlimit : s.live.downlink.retryLimit ≤ k.attempts + 1
        · exact ⟨_, [_], failSend_ends hlimit, rfl⟩
        · exact ⟨_, [], failSend_again (Nat.not_le.mp hlimit), rfl⟩
  · exact ⟨s.entry p.index, [], by rw [setEntry_entry]; rfl, rfl⟩

theorem touches_stagePool (p : Position) (ack : Option Seq) (s : State) : Touches p.index s (stagePool p ack s) := by
  obtain ⟨e, ns, h, -⟩ := stagePool_spec p ack s
  rw [h, notifyAll_eq]
  exact ⟨rfl, fun j hj => entry_setEntry_ne s e hj.symm⟩

theorem pooled_stagePool (p : Position) (ack : Option Seq) (s : State) : Pooled ((stagePool p ack s).entry p.index) (s.entry p.index) := by
  obtain ⟨e, ns, h, he⟩ := stagePool_spec p ack s
  rw [h, entry_notifyAll, entry_setEntry_self]
  exact he

/-- What the pool's stage leaves as it is, beside other entries. -/
theorem frame_stagePool (p : Position) (ack : Option Seq) (s : State) : (stagePool p ack s).counters = s.counters ∧
    (stagePool p ack s).ports = s.ports ∧ (stagePool p ack s).queues = s.queues := by
  obtain ⟨e, ns, h, -⟩ := stagePool_spec p ack s
  rw [h]
  simp

/-! ### Stage 5: a window heard (R42, R118) -/

/-- An entry as a heard window leaves it (R42, R118). -/
def heardTo (round : RoundNumber) (e : Entry) : Entry :=
  if e.state = .joining then { e.hearNow round with state := .active }
  else if e.state = .arriving then { e.hearNow round with state := .active, peer := none, phaseTimer := none }
  else e.hearNow round

section
variable {round : RoundNumber}

theorem heardWindow_joining (h : (s.entry i).state = .joining) : heardWindow round i s =
    notify (.joined (s.entry i).car i (s.entry i).rate (s.entry i).granted) (s.setEntry i (heardTo round (s.entry i))) := by
  rw [heardTo, if_pos h]
  simp only [heardWindow, Entry.hearNow, h]
  rfl

theorem heardWindow_arriving (h : (s.entry i).state = .arriving) : heardWindow round i s =
    notify (.arrived (s.entry i).car i (nodeByte (s.entry i).peer) (s.entry i).rate (s.entry i).granted)
      (sendToPeer (s.entry i).peer (.done (s.entry i).car) (s.setEntry i (heardTo round (s.entry i)))) := by
  rw [heardTo, if_neg (by rw [h]; decide), if_pos h]
  simp only [heardWindow, Entry.hearNow, h]
  rfl

theorem heardWindow_other (h : (s.entry i).state ≠ .joining) (h' : (s.entry i).state ≠ .arriving) :
    heardWindow round i s = s.setEntry i (heardTo round (s.entry i)) := by
  rw [heardTo, if_neg h, if_neg h']
  simp only [heardWindow]
  split
  · next hx => exact absurd hx h
  · next hx => exact absurd hx h'
  · rfl

theorem heardWindow_spec (round : RoundNumber) (i : Index) (s : State) : Touches i s (heardWindow round i s) ∧
    (heardWindow round i s).entry i = heardTo round (s.entry i) ∧ (heardWindow round i s).counters = s.counters ∧
    (heardWindow round i s).queues = s.queues := by
  by_cases hj : (s.entry i).state = .joining
  · rw [heardWindow_joining hj]
    exact ⟨(touches_setEntry i _ s).trans (touches_notify i _ _), (entry_notify ..).trans (entry_setEntry_self ..), rfl, rfl⟩
  · by_cases ha : (s.entry i).state = .arriving
    · rw [heardWindow_arriving ha]
      refine ⟨(touches_setEntry i _ s).trans ((touches_sendToPeer i _ _ _).trans (touches_notify i _ _)), ?_, ?_, ?_⟩
      · rw [entry_notify, entry_sendToPeer, entry_setEntry_self]
      · simp
      · simp
    · rw [heardWindow_other hj ha]
      exact ⟨touches_setEntry i _ s, entry_setEntry_self .., rfl, rfl⟩

end

/-! ### Stage 5: a window missed (R44, R45) -/

section
variable {grace : Bool}

theorem missedWindow_not (h : grace = true ∨ (s.entry i).state.charged = false) : missedWindow grace i s = s :=
  if_neg (by rcases h with h | h <;> simp [h])

/-- An entry that a window has charged. -/
def chargedTo (e : Entry) : Entry := { e with missed := e.missed + 1 }

theorem missedWindow_below (hg : grace = false) (hc : (s.entry i).state.charged = true)
    (h : (s.entry i).missed + 1 < s.live.roster.missLimit) : missedWindow grace i s = s.setEntry i (chargedTo (s.entry i)) :=
  (if_pos ⟨hc, hg⟩).trans (if_neg (Nat.not_le.mpr h))

theorem missedWindow_limit (hg : grace = false) (hc : (s.entry i).state.charged = true)
    (h : s.live.roster.missLimit ≤ (s.entry i).missed + 1) :
    missedWindow grace i s = departEntry i (s.setEntry i (chargedTo (s.entry i))) :=
  (if_pos ⟨hc, hg⟩).trans (if_pos h)

/-- What is left of a state besides the roster, the order table, the answers, the plans, the ports and the control link, once an entry
has been freed. -/
def FreedFrame (s t : State) : Prop :=
  t = { s with roster := t.roster, order := t.order, answers := t.answers, engine := t.engine, ports := t.ports, control := t.control }

/-- All that the miss limit does to an entry and its peer (R45). -/
theorem departEntry_spec (i : Index) (s : State) :
    FreedFrame s (departEntry i s) ∧ (departEntry i s).entry i = Entry.vacant ∧ (∀ j, j ≠ i → (departEntry i s).entry j = s.entry j) ∧
    (departEntry i s).order = s.order.erase i ∧
    (departEntry i s).ports =
      (if (s.entry i).state = .offering then (sendToPeer (s.entry i).peer (.cancel (s.entry i).car) s).ports else s.ports) ∧
    (departEntry i s).control = (notifyAll (.departed (s.entry i).car i (s.entry i).departReason (s.entry i).lastHeard ::
      (s.entry i).undelivered .departed) s).control := by
  obtain ⟨horder, -, -, hcontrol⟩ := freeEntry_spec s i
    (some (.departed (s.entry i).car i (s.entry i).departReason (s.entry i).lastHeard)) .departed
  have hentry (j : Index) := entry_freeEntry s i j
    (some (.departed (s.entry i).car i (s.entry i).departReason (s.entry i).lastHeard)) .departed
  have hports := freeEntry_ports s i (some (.departed (s.entry i).car i (s.entry i).departReason (s.entry i).lastHeard)) .departed
  have himage := freeEntry_image s i (some (.departed (s.entry i).car i (s.entry i).departReason (s.entry i).lastHeard)) .departed
  have hfreed : FreedFrame s (freeEntry i
      (some (.departed (s.entry i).car i (s.entry i).departReason (s.entry i).lastHeard)) .departed s) := by
    rw [freeEntry, notifyAll_eq]
    rfl
  simp only [departEntry]
  generalize freeEntry i (some (.departed (s.entry i).car i (s.entry i).departReason (s.entry i).lastHeard)) .departed s = u
    at horder hcontrol hentry hports himage hfreed ⊢
  split
  · have hsend := sendToPeer_ports_congr (s.entry i).peer (.cancel (s.entry i).car) hports himage
    obtain ⟨ps, hps⟩ := sendToPeer_eq (s.entry i).peer (.cancel (s.entry i).car) u
    rw [hps] at hsend ⊢
    refine ⟨?_, (hentry i).trans (if_pos rfl), fun j hj => (hentry j).trans (if_neg hj.symm), horder, hsend, hcontrol⟩
    rw [FreedFrame] at hfreed
    rw [hfreed]
    rfl
  · exact ⟨hfreed, (hentry i).trans (if_pos rfl), fun j hj => (hentry j).trans (if_neg hj.symm), horder, hports, hcontrol⟩

end

end

end Sys2Proof.Proofs
end

section
/-!
PROOFS. The close of a window as a run of its stages, and what it counts, charges and renews (R42 to R45, R67, R72, R149, R150).
-/
namespace Sys2Proof.Proofs
open Sys2Proof.Machine

section
variable {s : State} {p : Position} {r : UplinkResult} {round : RoundNumber} {grace : Bool}

/-! ### The stages in their order -/

/-- Stage 1: the node and the entry have counted the window. -/
def countedState (p : Position) (r : UplinkResult) (s : State) : State :=
  (s.countWith (NodeCounters.window (classify p (s.entry p.index) r) (resultFigures r).2)).updateEntry p.index
    (Entry.countWindow (classify p (s.entry p.index) r) (resultFigures r).2)

/-- Stage 2: its burst has been routed, its echo reported. -/
def routedState (round : RoundNumber) (p : Position) (r : UplinkResult) (s : State) : State :=
  stageRoute round p (classify p (s.entry p.index) r) (resultFigures r) (countedState p r s)

/-- Stage 3: the assessor has scored the entry. -/
def assessedState (round : RoundNumber) (p : Position) (r : UplinkResult) (s : State) : State :=
  assessWindow p.index ((classify p (s.entry p.index) r).heard.map fun b => (b, resultFigures r)) (routedState round p r s)

/-- Stage 4: the pool has read the acknowledgement. -/
def pooledState (round : RoundNumber) (p : Position) (r : UplinkResult) (s : State) : State :=
  stagePool p ((classify p (s.entry p.index) r).heard.bind Burst.ack) (assessedState round p r s)

theorem closeWindow_heard {b : Burst} (hlive : p.stale = false) (h : (classify p (s.entry p.index) r).heard = some b) :
    closeWindow round grace p r s = heardWindow round p.index (pooledState round p r s) := by
  simp only [closeWindow, hlive, h, Bool.false_eq_true, if_false, pooledState, assessedState, routedState, countedState]

theorem closeWindow_missed (hlive : p.stale = false) (h : (classify p (s.entry p.index) r).heard = none) :
    closeWindow round grace p r s = missedWindow grace p.index (pooledState round p r s) := by
  simp only [closeWindow, hlive, h, Bool.false_eq_true, if_false, pooledState, assessedState, routedState, countedState]

theorem closeWindow_stale (h : p.stale = true) :
    closeWindow round grace p r s = s.countWith (NodeCounters.window (classify p (s.entry p.index) r) (resultFigures r).2) := by
  simp only [closeWindow, h, if_true]

/-- The state in which the window of a position is closed. -/
def shutWindow (ago : Fin 3) (n : Nat) (s : State) : State :=
  s.withPlanOf ago ((s.engine.planOf ago).updateAt n fun q => { q with closed := true })

theorem exec_uplinkWindowClose {ago : Fin 3} {n : Fin 24} (h : s.WindowDue ago n p) (r : UplinkResult) :
    exec (.uplinkWindowClose ago n r) s =
      .next (closeWindow (s.engine.planOf ago).round (s.engine.planOf ago).grace p r (shutWindow ago n s)) := by
  refine (onEvent_of_quiescent (closeAt ago n.val r) h.quiescent).trans (congrArg _ ?_)
  simp only [closeAt, h.position, h.yetToClose, Bool.false_eq_true, if_false]
  rfl

/-! ### The entry and the counters through the stages -/

theorem touches_countedState (p : Position) (r : UplinkResult) (s : State) : Touches p.index s (countedState p r s) :=
  (touches_countWith p.index _ s).trans (touches_setEntry p.index _ _)

theorem touches_routedState (round : RoundNumber) (p : Position) (r : UplinkResult) (s : State) :
    Touches p.index s (routedState round p r s) := (touches_countedState p r s).trans (touches_stageRoute ..)

theorem touches_assessedState (round : RoundNumber) (p : Position) (r : UplinkResult) (s : State) :
    Touches p.index s (assessedState round p r s) := (touches_routedState round p r s).trans (touches_assessWindow ..)

theorem touches_pooledState (round : RoundNumber) (p : Position) (r : UplinkResult) (s : State) :
    Touches p.index s (pooledState round p r s) := (touches_assessedState round p r s).trans (touches_stagePool ..)

theorem entry_routedState (round : RoundNumber) (p : Position) (r : UplinkResult) (s : State) :
    (routedState round p r s).entry p.index = routedTo (classify p (s.entry p.index) r)
      (Entry.countWindow (classify p (s.entry p.index) r) (resultFigures r).2 (s.entry p.index)) := by
  refine (entry_stageRoute ..).trans (congrArg _ ?_)
  exact entry_setEntry_self ..

theorem counters_routedState (round : RoundNumber) (p : Position) (r : UplinkResult) (s : State) :
    (routedState round p r s).counters = NodeCounters.window (classify p (s.entry p.index) r) (resultFigures r).2 s.counters :=
  counters_stageRoute ..

/-- What the first two stages may change of an entry. -/
def Routed (e' e : Entry) : Prop :=
  e' = { e with good := e'.good, failed := e'.failed, corrected := e'.corrected, lastSeq := e'.lastSeq }

theorem routed_countWindow (o : WindowOutcome) (c : Nat) (e : Entry) : Routed (routedTo o (e.countWindow o c)) e := by
  cases o <;> rfl

/-- The entry after the first four stages: what each of them may have changed. -/
structure Staged (round : RoundNumber) (p : Position) (r : UplinkResult) (s : State) : Prop where
  routed : Routed ((routedState round p r s).entry p.index) (s.entry p.index)
  assessed : Assessed ((assessedState round p r s).entry p.index) ((routedState round p r s).entry p.index)
  pooled : Pooled ((pooledState round p r s).entry p.index) ((assessedState round p r s).entry p.index)

theorem staged (round : RoundNumber) (p : Position) (r : UplinkResult) (s : State) : Staged round p r s where
  routed := (entry_routedState round p r s).symm ▸ routed_countWindow _ _ _
  assessed := (assessWindow_spec ..).1
  pooled := pooled_stagePool ..

/-- What the first four stages leave of an entry. -/
structure StagedKept (e' e : Entry) : Prop where
  car : e'.car = e.car
  granted : e'.granted = e.granted
  cls : e'.cls = e.cls
  missed : e'.missed = e.missed
  heard : e'.heard = e.heard
  lastHeard : e'.lastHeard = e.lastHeard
  survey : e'.survey = e.survey
  notActive : e.state ≠ .active → e'.state = e.state ∧ e'.peer = e.peer ∧ e'.phaseTimer = e.phaseTimer
  active : e.state = .active → e'.state = .active ∨ e'.state = .offering

theorem Staged.kept (h : Staged round p r s) : StagedKept ((pooledState round p r s).entry p.index) (s.entry p.index) := by
  obtain ⟨hrouted, ⟨hassessed, hquiet, hactive⟩, hpooled⟩ := h
  generalize (routedState round p r s).entry p.index = e1, (assessedState round p r s).entry p.index = e2,
    (pooledState round p r s).entry p.index = e3 at hrouted hassessed hquiet hactive hpooled ⊢
  have hstate1 : e1.state = (s.entry p.index).state := by rw [hrouted]
  have hpeer1 : e1.peer = (s.entry p.index).peer := by rw [hrouted]
  have htimer1 : e1.phaseTimer = (s.entry p.index).phaseTimer := by rw [hrouted]
  have hstate3 : e3.state = e2.state := by rw [hpooled]
  have hpeer3 : e3.peer = e2.peer := by rw [hpooled]
  have htimer3 : e3.phaseTimer = e2.phaseTimer := by rw [hpooled]
  exact {
    car := by rw [hpooled, hassessed, hrouted]
    granted := by rw [hpooled, hassessed, hrouted]
    cls := by rw [hpooled, hassessed, hrouted]
    missed := by rw [hpooled, hassessed, hrouted]
    heard := by rw [hpooled, hassessed, hrouted]
    lastHeard := by rw [hpooled, hassessed, hrouted]
    survey := by rw [hpooled, hassessed, hrouted]
    notActive := by
      rw [hstate3, hpeer3, htimer3, ← hstate1, ← hpeer1, ← htimer1]
      exact hquiet
    active := by
      rw [hstate3, ← hstate1]
      exact hactive }

theorem charged_pooledState (round : RoundNumber) (p : Position) (r : UplinkResult) (s : State) :
    ((pooledState round p r s).entry p.index).state.charged = (s.entry p.index).state.charged := by
  have hkept := (staged round p r s).kept
  by_cases hactive : (s.entry p.index).state = .active
  · rw [hactive]
    rcases hkept.active hactive with h | h
    · rw [h]
    · rw [h]; rfl
  · rw [(hkept.notActive hactive).1]

theorem routedTo_counts (o : WindowOutcome) (e : Entry) :
    (routedTo o e).good = e.good ∧ (routedTo o e).failed = e.failed ∧ (routedTo o e).corrected = e.corrected := by
  cases o <;> exact ⟨rfl, rfl, rfl⟩

/-- The three counters of the entry after the first four stages. -/
theorem counts_pooledState (round : RoundNumber) (p : Position) (r : UplinkResult) (s : State) :
    let counted := (s.entry p.index).countWindow (classify p (s.entry p.index) r) (resultFigures r).2
    ((pooledState round p r s).entry p.index).good = counted.good ∧ ((pooledState round p r s).entry p.index).failed = counted.failed ∧
      ((pooledState round p r s).entry p.index).corrected = counted.corrected := by
  intro counted
  obtain ⟨-, ⟨hassessed, -, -⟩, hpooled⟩ := staged round p r s
  rw [hpooled, hassessed, entry_routedState]
  exact routedTo_counts _ _

theorem counters_pooledState (round : RoundNumber) (p : Position) (r : UplinkResult) (s : State) : (pooledState round p r s).counters =
    { NodeCounters.window (classify p (s.entry p.index) r) (resultFigures r).2 s.counters with
      notStarted := (pooledState round p r s).counters.notStarted } := by
  have hassessed := (assessWindow_spec p.index ((classify p (s.entry p.index) r).heard.map fun b => (b, resultFigures r))
    (routedState round p r s)).2.2
  have hpooled : (pooledState round p r s).counters = (assessedState round p r s).counters := (frame_stagePool ..).1
  rw [hpooled]
  rw [counters_routedState] at hassessed
  exact hassessed

/-- Without a heard burst the assessor writes the entry alone. -/
theorem assessedState_missed (h : (classify p (s.entry p.index) r).heard = none) : assessedState round p r s =
    (routedState round p r s).setEntry p.index ((assessedState round p r s).entry p.index) := by
  unfold assessedState
  rw [h]
  exact assessWindow_plain (.inr nofun)

theorem counters_pooledState_missed (h : (classify p (s.entry p.index) r).heard = none) : (pooledState round p r s).counters =
    NodeCounters.window (classify p (s.entry p.index) r) (resultFigures r).2 s.counters := by
  have hpooled : (pooledState round p r s).counters = (assessedState round p r s).counters := (frame_stagePool ..).1
  rw [hpooled, assessedState_missed h]
  exact counters_routedState ..

/-! ### A window missed, by what stage 5 does to its entry -/

section
variable {ago : Fin 3} {n : Fin 24} {m c : Nat} {bytes : List Byte} {b : Burst}

theorem exec_missed (hdue : s.WindowDue ago n p) (hlive : p.stale = false) (h : Missed p r) : exec (.uplinkWindowClose ago n r) s =
    .next (missedWindow (s.engine.planOf ago).grace p.index (pooledState (s.engine.planOf ago).round p r (shutWindow ago n s))) :=
  (exec_uplinkWindowClose hdue r).trans (congrArg _ (closeWindow_missed hlive (classify_missed h _)))

theorem exec_heard (hdue : s.WindowDue ago n p) (h : p.Hears bytes b) (m c : Nat) :
    exec (.uplinkWindowClose ago n (.passed m c bytes)) s = .next (heardWindow (s.engine.planOf ago).round p.index
      (pooledState (s.engine.planOf ago).round p (.passed m c bytes) (shutWindow ago n s))) :=
  (exec_uplinkWindowClose hdue _).trans (congrArg _ (closeWindow_heard h.live (heard_classify h _ m c)))

/-- Whether the close of a missed window reaches the miss limit (R45). -/
def Leaves (grace : Bool) (e : Entry) (s : State) : Prop :=
  grace = false ∧ e.state.charged = true ∧ s.live.roster.missLimit ≤ e.missed + 1

theorem live_pooledState (round : RoundNumber) (p : Position) (r : UplinkResult) (s : State) : (pooledState round p r s).live = s.live := by
  rw [(touches_pooledState round p r s).beside]

/-- Stage 5 of a missed window that does not reach the limit, and of one that does. -/
theorem missed_cases (round : RoundNumber) (grace : Bool) (p : Position) (r : UplinkResult) (s : State) :
    (¬ Leaves grace (s.entry p.index) s ∧ ∃ missed, missedWindow grace p.index (pooledState round p r s) =
        (pooledState round p r s).setEntry p.index { (pooledState round p r s).entry p.index with missed := missed }) ∨
    (Leaves grace (s.entry p.index) s ∧ missedWindow grace p.index (pooledState round p r s) =
      departEntry p.index ((pooledState round p r s).setEntry p.index (chargedTo ((pooledState round p r s).entry p.index)))) := by
  have hcharged := charged_pooledState round p r s
  have hmissed := (staged round p r s).kept.missed
  have hlimit := live_pooledState round p r s
  by_cases hcharge : grace = true ∨ (s.entry p.index).state.charged = false
  · refine .inl ⟨fun ⟨hg, hc, _⟩ => ?_, ((pooledState round p r s).entry p.index).missed, ?_⟩
    · rcases hcharge with h | h
      · rw [hg] at h; cases h
      · rw [hc] at h; cases h
    · rw [missedWindow_not (hcharged ▸ hcharge)]
      exact (setEntry_entry _ _).symm
  · obtain ⟨hg, hc⟩ := not_or.mp hcharge
    have hg : grace = false := by simpa using hg
    have hc : (s.entry p.index).state.charged = true := by simpa using hc
    by_cases hle : s.live.roster.missLimit ≤ (s.entry p.index).missed + 1
    · exact .inr ⟨⟨hg, hc, hle⟩, missedWindow_limit hg (hcharged.trans hc) (by rw [hlimit, hmissed]; exact hle)⟩
    · exact .inl ⟨fun h => hle h.2.2, _, missedWindow_below hg (hcharged.trans hc) (by rw [hlimit, hmissed]; exact Nat.not_le.mp hle)⟩

/-- What a missed window counts. -/
theorem missed_counts (h : (classify p (s.entry p.index) r).heard = none) (round : RoundNumber) (grace : Bool) :
    let t := missedWindow grace p.index (pooledState round p r s)
    let counted := (s.entry p.index).countWindow (classify p (s.entry p.index) r) (resultFigures r).2
    t.counters = NodeCounters.window (classify p (s.entry p.index) r) (resultFigures r).2 s.counters ∧
    (Leaves grace (s.entry p.index) s →
      (t.entry p.index).good = 0 ∧ (t.entry p.index).failed = 0 ∧ (t.entry p.index).corrected = 0) ∧
    (¬ Leaves grace (s.entry p.index) s → (t.entry p.index).good = counted.good ∧ (t.entry p.index).failed = counted.failed ∧
      (t.entry p.index).corrected = counted.corrected) := by
  intro t counted
  have hcounters := counters_pooledState_missed (round := round) h
  have hcounts := counts_pooledState round p r s
  rcases missed_cases round grace p r s with ⟨hnot, missed, heq⟩ | ⟨hleaves, heq⟩
  · have ht : t = _ := heq
    rw [ht, entry_setEntry_self]
    exact ⟨hcounters, fun hleaves => absurd hleaves hnot, fun _ => hcounts⟩
  · have ht : t = _ := heq
    obtain ⟨hframe, hvacant, -⟩ := departEntry_spec p.index
      ((pooledState round p r s).setEntry p.index (chargedTo ((pooledState round p r s).entry p.index)))
    have htc : t.counters = (pooledState round p r s).counters := by rw [ht, hframe]; rfl
    rw [htc, hcounters, ht, hvacant]
    exact ⟨rfl, fun _ => ⟨rfl, rfl, rfl⟩, fun hnot => absurd hleaves hnot⟩

theorem pos_limitCorrections : 0 < limitCorrections c ↔ 0 < c := by simp [limitCorrections]

/-- What a heard window counts at the node, but for the handovers not started. -/
theorem window_hears (h : p.Hears bytes b) (e : Entry) (m c : Nat) (cs : NodeCounters) :
    NodeCounters.window (classify p e (.passed m c bytes)) (limitCorrections c) cs = { cs with
      burstsGood := min (cs.burstsGood + 1) 65535
      corrected := if 0 < c then min (cs.corrected + 1) 65535 else cs.corrected
      lengthErrors := if codeBytes e.granted < b.length ∨ b.length ≠ b.received then
        min (cs.lengthErrors + 1) 65535 else cs.lengthErrors
      repeats := if b.length ≤ codeBytes e.granted ∧ b.length = b.received ∧ b.length ≠ 0 ∧ b.kind ≠ 62 ∧ e.lastSeq = some b.seq then
        min (cs.repeats + 1) 65535 else cs.repeats } := by
  have hcorrected : (if 0 < limitCorrections c then count16 cs.corrected else cs.corrected) =
      if 0 < c then min (cs.corrected + 1) 65535 else cs.corrected := by simp only [pos_limitCorrections]; rfl
  rw [classify_hears h]
  by_cases hlen : codeBytes e.granted < b.length ∨ b.length ≠ b.received
  · have hnot : ¬ (b.length ≤ codeBytes e.granted ∧ b.length = b.received ∧ b.length ≠ 0 ∧ b.kind ≠ 62 ∧ e.lastSeq = some b.seq) :=
      fun h => hlen.elim (Nat.not_lt.mpr h.1) (absurd h.2.1)
    simp only [if_pos hlen, if_neg hnot, ← hcorrected]
    rfl
  · obtain ⟨hle, hwhole⟩ := not_or.mp hlen
    by_cases hempty : b.length = 0 ∨ b.kind = kindJoin
    · have hnot : ¬ (b.length ≤ codeBytes e.granted ∧ b.length = b.received ∧ b.length ≠ 0 ∧ b.kind ≠ 62 ∧ e.lastSeq = some b.seq) :=
        fun h => hempty.elim (absurd · h.2.2.1) (absurd · h.2.2.2.1)
      simp only [if_neg hlen, if_pos hempty, if_neg hnot, ← hcorrected]
      rfl
    · obtain ⟨hsome, hkind⟩ := not_or.mp hempty
      by_cases hseq : e.lastSeq = some b.seq
      · have hall : b.length ≤ codeBytes e.granted ∧ b.length = b.received ∧ b.length ≠ 0 ∧ b.kind ≠ 62 ∧ e.lastSeq = some b.seq :=
          ⟨Nat.not_lt.mp hle, not_not.mp hwhole, hsome, hkind, hseq⟩
        simp only [if_neg hlen, if_neg hempty, if_pos hseq, if_pos hall, ← hcorrected]
        rfl
      · have hnot : ¬ (b.length ≤ codeBytes e.granted ∧ b.length = b.received ∧ b.length ≠ 0 ∧ b.kind ≠ 62 ∧ e.lastSeq = some b.seq) :=
          fun h => hseq h.2.2.2.2
        simp only [if_neg hlen, if_neg hempty, if_neg hseq, if_neg hnot, ← hcorrected]
        rfl

theorem countWindow_heard {o : WindowOutcome} (h : o.heard = some b) (c : Nat) (e : Entry) : e.countWindow o c =
    { e with good := count16 e.good, corrected := if 0 < c then count16 e.corrected else e.corrected } := by
  cases o with
  | nothing | checkFailed | wrongCar => cases h
  | lengthError | idle | repeated | accepted => rfl

/-- What a heard window counts for its car. -/
theorem countWindow_hears (h : p.Hears bytes b) (e : Entry) (m c : Nat) :
    e.countWindow (classify p e (.passed m c bytes)) (limitCorrections c) = { e with
      good := min (e.good + 1) 65535, corrected := if 0 < c then min (e.corrected + 1) 65535 else e.corrected } := by
  simp only [countWindow_heard (heard_classify h e m c), pos_limitCorrections]
  rfl

theorem heardTo_counts (round : RoundNumber) (e : Entry) :
    (heardTo round e).good = e.good ∧ (heardTo round e).failed = e.failed ∧ (heardTo round e).corrected = e.corrected := by
  unfold heardTo
  repeat' split
  all_goals exact ⟨rfl, rfl, rfl⟩

/-- What a heard window counts. -/
theorem heard_counts (h : p.Hears bytes b) (round : RoundNumber) (m c : Nat) (s : State) :
    let t := heardWindow round p.index (pooledState round p (.passed m c bytes) s)
    let e := s.entry p.index
    t.counters = { NodeCounters.window (classify p e (.passed m c bytes)) (limitCorrections c) s.counters with
      notStarted := t.counters.notStarted } ∧
    (t.entry p.index).good = min (e.good + 1) 65535 ∧ (t.entry p.index).failed = e.failed ∧
    (t.entry p.index).corrected = if 0 < c then min (e.corrected + 1) 65535 else e.corrected := by
  intro t e
  obtain ⟨-, hentry, hcounters, -⟩ := heardWindow_spec round p.index (pooledState round p (.passed m c bytes) s)
  have htc : t.counters = (pooledState round p (.passed m c bytes) s).counters := hcounters
  have hcounts := counts_pooledState round p (.passed m c bytes) s
  have hfigures : (resultFigures (.passed m c bytes)).2 = limitCorrections c := rfl
  rw [hfigures, countWindow_hears h] at hcounts
  obtain ⟨hgood, hfailed, hcorrected⟩ := heardTo_counts round ((pooledState round p (.passed m c bytes) s).entry p.index)
  have hte : t.entry p.index = _ := hentry
  rw [htc, hte, hgood, hfailed, hcorrected]
  exact ⟨counters_pooledState .., hcounts⟩

theorem closeAt_closed {r : UplinkResult} (h : ∀ q, (s.engine.planOf ago).positions[n.val]? = some q → q.closed = true) :
    closeAt ago n.val r s = s := by
  simp only [closeAt]
  split
  · rfl
  · next q hq => exact if_pos (h q hq)

end

end

/-- Settles O36: each result counted as R67 and R150 say, and the entry freed at the miss limit vacant. -/
theorem windowsCounted : Obligations.WindowsCounted := by
  refine ⟨fun s hs => onEvent_of_quiescent strayBurst hs,
    fun ago n r s hs hclosed => (onEvent_of_quiescent (closeAt ago n.val r) hs).trans (congrArg _ (closeAt_closed hclosed)), ?_⟩
  intro ago n p s hdue shut
  refine ⟨fun hstale => ?_, fun hlive => ?_⟩
  · have hexec (r : UplinkResult) := (exec_uplinkWindowClose hdue r).trans (congrArg _ (closeWindow_stale hstale))
    refine ⟨hexec .nothing, hexec .checkFailed, fun m c bytes hread => ?_⟩
    obtain ⟨b, hb⟩ := Option.isSome_iff_exists.mp hread
    refine (hexec (.passed m c bytes)).trans ?_
    rw [classify_wrongCar hb (.inl hstale)]
    rfl
  · intro e freed counted
    have hmiss {r : UplinkResult} (h : Missed p r) := missed_counts (s := shutWindow ago n s) (classify_missed h _)
      (s.engine.planOf ago).round (s.engine.planOf ago).grace
    have hnothing : Missed p .nothing := .inl rfl
    have hfailed : Missed p .checkFailed := .inr (.inl rfl)
    refine ⟨⟨_, exec_missed hdue hlive hnothing, hmiss hnothing⟩, ⟨_, exec_missed hdue hlive hfailed, hmiss hfailed⟩,
      fun m c bytes b hb => ⟨fun hcar => ?_, fun hcar => ?_⟩⟩
    · have hwrong : Missed p (.passed m c bytes) := .inr (.inr ⟨m, c, bytes, b, rfl, hb, hcar⟩)
      have h := hmiss hwrong
      rw [classify_wrongCar hb (.inr hcar)] at h
      exact ⟨_, exec_missed hdue hlive hwrong, h⟩
    · have hhears : p.Hears bytes b := ⟨hlive, hb, hcar⟩
      obtain ⟨hcounters, hentry⟩ := heard_counts hhears (s.engine.planOf ago).round m c (shutWindow ago n s)
      rw [window_hears hhears] at hcounters
      exact ⟨_, exec_heard hdue hhears m c, hcounters, hentry⟩

end Sys2Proof.Proofs
end

section
/-!
PROOFS. What a missed window charges and a heard one renews (R42 to R45, R51 to R56, R118).
-/
namespace Sys2Proof.Proofs
open Sys2Proof.Machine

section
variable {s : State} {i : Index} {p : Position} {r : UplinkResult} {round : RoundNumber} {grace : Bool}

/-! ### A missed window before stage 5 -/

theorem moveScore_zero (n : Nat) : moveScore n 0 = n - (n + 7) / 8 := by
  unfold moveScore
  split
  · omega
  · simp

/-- An entry whose score a missed window has moved toward 0 (R53, R54). -/
def scoreMissed (e : Entry) : Entry := { e with score := e.score - (e.score + 7) / 8 }

/-- An entry as the assessor leaves it after a missed window (R51, R55). -/
def missedTo (l : LinkGroup) (e : Entry) : Entry :=
  if e.state = .active then (scoreMissed e).propose l else if e.state.charged then scoreMissed e else e

theorem updateScore_zero (e : Entry) : e.updateScore 0 = scoreMissed e := congrArg (fun n => { e with score := n }) (moveScore_zero _)

theorem assessWindow_missed (i : Index) (s : State) : assessWindow i none s = s.setEntry i (missedTo s.live.link (s.entry i)) := by
  unfold missedTo
  by_cases hactive : (s.entry i).state = .active
  · rw [if_pos hactive, ← updateScore_zero]
    exact assessWindow_active_missed hactive
  · rw [if_neg hactive]
    by_cases hcharged : (s.entry i).state = .joining ∨ (s.entry i).state = .offering
    · rw [if_pos (by rcases hcharged with h | h <;> rw [h] <;> rfl), ← updateScore_zero]
      exact assessWindow_charged hcharged
    · obtain ⟨hj, ho⟩ := not_or.mp hcharged
      have hnot : (s.entry i).state.charged = false := by
        cases hstate : (s.entry i).state with
        | joining => exact absurd hstate hj
        | active => exact absurd hstate hactive
        | offering => exact absurd hstate ho
        | _ => rfl
      rw [if_neg (by rw [hnot]; decide), setEntry_entry, assessWindow_rests hj ho hactive]

theorem propose_failed (l : LinkGroup) (e : Entry) (x : Nat) : { e with failed := x }.propose l = { e.propose l with failed := x } := by
  have hite (c : Prop) [Decidable c] (e₁ e₂ : Entry) :
      { (if c then e₁ else e₂) with failed := x } = if c then { e₁ with failed := x } else { e₂ with failed := x } := by split <;> rfl
  unfold Entry.propose
  rw [hite, hite, hite, hite]
  rfl

theorem missedTo_failed (l : LinkGroup) (e : Entry) (x : Nat) : missedTo l { e with failed := x } = { missedTo l e with failed := x } := by
  unfold missedTo
  split
  · exact propose_failed l (scoreMissed e) x
  · split <;> rfl

theorem missedTo_eq (l : LinkGroup) (e : Entry) : missedTo l e = { e with
    score := (missedTo l e).score, wanted := (missedTo l e).wanted, upCount := (missedTo l e).upCount } := by
  unfold missedTo
  split
  · rw [propose_eq]
    rfl
  · split <;> rfl

/-- The failed checks of an entry after a missed window (R67, R150). -/
def failedAfter (r : UplinkResult) (e : Entry) : Nat := if r = .checkFailed then min (e.failed + 1) 65535 else e.failed

theorem countWindow_missed (h : Missed p r) (e : Entry) (c : Nat) :
    routedTo (classify p e r) (e.countWindow (classify p e r) c) = { e with failed := failedAfter r e } := by
  rcases h with rfl | rfl | ⟨m, c', bytes, b, rfl, hread, hcar⟩
  · rfl
  · rfl
  · rw [classify_wrongCar hread (.inr hcar)]
    rfl

theorem entry_assessedState_missed (h : Missed p r) (round : RoundNumber) (s : State) : (assessedState round p r s).entry p.index =
    { missedTo s.live.link (s.entry p.index) with failed := failedAfter r (s.entry p.index) } := by
  unfold assessedState
  rw [classify_missed h]
  have hlive : (routedState round p r s).live = s.live := by rw [(touches_routedState round p r s).beside]
  refine (congrArg (fun t => State.entry t p.index) (assessWindow_missed p.index _)).trans ((entry_setEntry_self ..).trans ?_)
  rw [hlive, entry_routedState, countWindow_missed h, missedTo_failed]

/-- A missed window leaves the ports before stage 5. -/
theorem ports_pooledState_missed (h : Missed p r) (round : RoundNumber) (s : State) : (pooledState round p r s).ports = s.ports := by
  have hpool : (pooledState round p r s).ports = (assessedState round p r s).ports := (frame_stagePool ..).2.1
  have hroute : (routedState round p r s).ports = s.ports := by
    unfold routedState
    rw [stageRoute_missed (classify_missed h _)]
    unfold surveyReport
    repeat' split
    · exact deposit_ports ..
    · rfl
    · rfl
  rw [hpool, assessedState_missed (classify_missed h _)]
  exact hroute

/-- With nothing to tell the survey queue or the pool, it leaves the control link too. -/
theorem control_routedState_missed (h : Missed p r) (hquiet : (∀ v, p.sent ≠ .pattern v) ∨ (s.entry p.index).survey = false)
    (round : RoundNumber) : (routedState round p r s).control = s.control := by
  have hsurvey : ((countedState p r s).entry p.index).survey = (s.entry p.index).survey := by
    refine (congrArg Entry.survey (entry_setEntry_self ..)).trans ?_
    cases classify p (s.entry p.index) r <;> rfl
  unfold routedState
  rw [stageRoute_missed (classify_missed h _), surveyReport_rests (hquiet.imp_right (hsurvey.trans ·))]
  rfl

theorem control_assessedState_missed (h : Missed p r) (hquiet : (∀ v, p.sent ≠ .pattern v) ∨ (s.entry p.index).survey = false)
    (round : RoundNumber) : (assessedState round p r s).control = s.control := by
  rw [assessedState_missed (classify_missed h _)]
  exact control_routedState_missed h hquiet round

/-! ### A heard window -/

section
variable {m c : Nat} {bytes : List Byte} {b : Burst}

theorem lastSeq_countWindow (o : WindowOutcome) (c : Nat) (e : Entry) : (e.countWindow o c).lastSeq = e.lastSeq := by
  cases o <;> rfl

theorem lastSeq_pooledState (h : p.Hears bytes b) (round : RoundNumber) (m c : Nat) (s : State) :
    ((s.entry p.index).Accepts b → ((pooledState round p (.passed m c bytes) s).entry p.index).lastSeq = some b.seq) ∧
    (¬ (s.entry p.index).Accepts b →
      ((pooledState round p (.passed m c bytes) s).entry p.index).lastSeq = (s.entry p.index).lastSeq) := by
  obtain ⟨-, ⟨hassessed, -, -⟩, hpooled⟩ := staged round p (.passed m c bytes) s
  rw [hpooled, hassessed, entry_routedState]
  refine ⟨fun ha => ?_, fun ha => ?_⟩
  · rw [classify_accepts h ha]
    rfl
  · rw [routedTo_not_accepted (classify_not_accepts h ha)]
    exact lastSeq_countWindow _ _ _

theorem score_pooledState (h : p.Hears bytes b) (round : RoundNumber) (m c : Nat) (s : State) :
    ((pooledState round p (.passed m c bytes) s).entry p.index).score =
      if (s.entry p.index).state.charged then moveScore (s.entry p.index).score (min (4 * min m 63 - 8 * min c 15) 255)
      else (s.entry p.index).score := by
  have hpooled := (staged round p (.passed m c bytes) s).pooled
  have hrouted := (staged round p (.passed m c bytes) s).routed
  have hscore := (assessWindow_spec p.index ((classify p (s.entry p.index) (.passed m c bytes)).heard.map fun b =>
    (b, resultFigures (.passed m c bytes))) (routedState round p (.passed m c bytes) s)).2.1
  have hstep : ((pooledState round p (.passed m c bytes) s).entry p.index).score =
      ((assessedState round p (.passed m c bytes) s).entry p.index).score := by rw [hpooled]
  rw [hstep]
  refine hscore.trans ?_
  rw [heard_classify h, hrouted]
  rfl

/-- A heard burst that makes no record and reports no echo leaves the queues, the ports and the control link at stage 2. -/
theorem routedState_quiet (h : p.Hears bytes b) (ha : ¬ (s.entry p.index).Accepts b)
    (hquiet : (∀ v, p.sent ≠ .pattern v) ∨ (s.entry p.index).survey = false) (round : RoundNumber) (m c : Nat) :
    routedState round p (.passed m c bytes) s = countedState p (.passed m c bytes) s := by
  have hsurvey : ((countedState p (.passed m c bytes) s).entry p.index).survey = (s.entry p.index).survey := by
    refine (congrArg Entry.survey (entry_setEntry_self ..)).trans ?_
    cases classify p (s.entry p.index) (.passed m c bytes) <;> rfl
  unfold routedState
  rw [stageRoute_heard (classify_not_accepts h ha) (heard_classify h _ m c), surveyReport_rests (hquiet.imp_right (hsurvey.trans ·))]

/-- Nor does the assessor, where the entry is not ACTIVE or the burst reports no neighbour. -/
theorem assessedState_quiet (h : p.Hears bytes b) (hstate : (s.entry p.index).state ≠ .active ∨ b.nbrValid = false)
    (round : RoundNumber) (m c : Nat) : assessedState round p (.passed m c bytes) s = (routedState round p (.passed m c bytes) s).setEntry
      p.index ((assessedState round p (.passed m c bytes) s).entry p.index) := by
  have hrouted := (staged round p (.passed m c bytes) s).routed
  unfold assessedState
  rw [heard_classify h]
  refine assessWindow_plain (hstate.imp (fun hne => ?_) fun hno x hx => ?_)
  · rw [hrouted]
    exact hne
  · obtain rfl : (b, resultFigures (.passed m c bytes)) = x := Option.some.inj hx
    exact neighbourReport_none (.inl hno)

theorem heardTo_other {e : Entry} (h : e.state ≠ .joining) (h' : e.state ≠ .arriving) : heardTo round e = e.hearNow round := by
  rw [heardTo, if_neg h, if_neg h']

theorem heardTo_joining {e : Entry} (h : e.state = .joining) : heardTo round e = { e.hearNow round with state := .active } := if_pos h

theorem heardTo_arriving {e : Entry} (h : e.state = .arriving) :
    heardTo round e = { e.hearNow round with state := .active, peer := none, phaseTimer := none } :=
  (if_neg (by rw [h]; decide)).trans (if_pos h)

/-- What a heard window sets whatever the state of the entry (R42). -/
theorem heardTo_sets (round : RoundNumber) (e : Entry) : (heardTo round e).car = e.car ∧ (heardTo round e).missed = 0 ∧
    (heardTo round e).lastHeard = round ∧ (heardTo round e).heard = true ∧ (heardTo round e).lastSeq = e.lastSeq ∧
    (heardTo round e).score = e.score := by
  unfold heardTo
  repeat' split
  all_goals exact ⟨rfl, rfl, rfl, rfl, rfl, rfl⟩

end

end

/-- The entry of a missed window before stage 5. -/
theorem entry_pooledState_missed (h : Missed p r) (round : RoundNumber) (s : State) : (pooledState round p r s).entry p.index =
    { missedTo s.live.link (s.entry p.index) with
      failed := failedAfter r (s.entry p.index)
      commands := ((pooledState round p r s).entry p.index).commands
      pace := ((pooledState round p r s).entry p.index).pace } := by
  have hpooled := (staged round p r s).pooled
  have hassessed := entry_assessedState_missed h round s
  generalize (assessedState round p r s).entry p.index = e2, (pooledState round p r s).entry p.index = e3 at hpooled hassessed ⊢
  rw [hpooled, hassessed]

/-- What the assessor leaves of a missed window's entry. -/
theorem missedTo_kept (l : LinkGroup) (e : Entry) : (missedTo l e).state = e.state ∧ (missedTo l e).car = e.car ∧
    (missedTo l e).peer = e.peer ∧ (missedTo l e).heard = e.heard ∧ (missedTo l e).missed = e.missed ∧
    (missedTo l e).lastHeard = e.lastHeard ∧ (missedTo l e).lastSeq = e.lastSeq ∧ (missedTo l e).commands = e.commands := by
  rw [missedTo_eq]
  exact ⟨rfl, rfl, rfl, rfl, rfl, rfl, rfl, rfl⟩

theorem missedTo_charged (l : LinkGroup) {e : Entry} (h : e.state.charged = true) :
    missedTo l e = if e.state = .active then (scoreMissed e).propose l else scoreMissed e := by
  rw [missedTo, if_pos h]

/-- The limit's notices and CANCEL, as the state before the window gives them where nothing was sent in the slot (R45). -/
theorem departEntry_missed (h : Missed p r) (round : RoundNumber) (s : State) :
    let t := departEntry p.index ((pooledState round p r s).setEntry p.index (chargedTo ((pooledState round p r s).entry p.index)))
    let e := s.entry p.index
    t.ports = (if e.state = .offering then (sendToPeer e.peer (.cancel e.car) s).ports else s.ports) ∧
    (p.sent = .nothing → t.control = (notifyAll (.departed e.car p.index e.departReason e.lastHeard :: e.undelivered .departed)
      s).control) := by
  intro t e
  obtain ⟨-, -, -, -, hports, hcontrol⟩ := departEntry_spec p.index
    ((pooledState round p r s).setEntry p.index (chargedTo ((pooledState round p r s).entry p.index)))
  have hassessed := entry_assessedState_missed h round s
  have hentry := entry_pooledState_missed h round s
  have hbefore := ports_pooledState_missed h round s
  have himage : (pooledState round p r s).image = s.image := by rw [(touches_pooledState round p r s).beside]
  have hkept := missedTo_kept s.live.link (s.entry p.index)
  rw [entry_setEntry_self] at hports hcontrol
  have hlink : p.sent = .nothing → (pooledState round p r s).control = s.control ∧
      ((pooledState round p r s).entry p.index).commands = e.commands := fun hsent => by
    have hrest : pooledState round p r s = assessedState round p r s := stagePool_nothing hsent
    rw [hrest]
    refine ⟨control_assessedState_missed h (.inl fun v => by rw [hsent]; exact nofun) round, ?_⟩
    rw [hassessed]
    exact hkept.2.2.2.2.2.2.2
  suffices hall : _ ∧ (p.sent = .nothing → _) from ⟨hports.trans hall.1, fun hsent => hcontrol.trans (hall.2 hsent)⟩
  clear hports hcontrol t
  generalize pooledState round p r s = w at hentry hbefore himage hlink ⊢
  generalize w.entry p.index = x at hentry hlink ⊢
  obtain ⟨hstate, hcar, hpeer, hheard, -, hlast, -, -⟩ := hkept
  have hxstate : (chargedTo x).state = e.state := by rw [hentry]; exact hstate
  have hxcar : (chargedTo x).car = e.car := by rw [hentry]; exact hcar
  have hxpeer : (chargedTo x).peer = e.peer := by rw [hentry]; exact hpeer
  have hxheard : (chargedTo x).heard = e.heard := by rw [hentry]; exact hheard
  have hxlast : (chargedTo x).lastHeard = e.lastHeard := by rw [hentry]; exact hlast
  refine ⟨?_, fun hsent => ?_⟩
  · rw [hxstate, hxpeer, hxcar, setEntry_ports, hbefore]
    exact if_congr Iff.rfl (sendToPeer_ports_congr e.peer (.cancel e.car) hbefore himage) rfl
  · obtain ⟨hsame, hcommands⟩ := hlink hsent
    have hxcommands : (chargedTo x).commands = e.commands := hcommands
    rw [Entry.departReason, Entry.undelivered, hxstate, hxheard, hxlast, hxcar, hxcommands]
    exact control_notifyAll_congr _ hsame

theorem chargedTo_eq {x y : Entry} {f m : Nat} (h : x = { y with failed := f, commands := x.commands, pace := x.pace }) (hm : y.missed = m) :
    chargedTo x = { y with missed := m + 1, failed := f, commands := (chargedTo x).commands, pace := (chargedTo x).pace } := by
  subst hm
  exact congrArg chargedTo h

/-- Settles O37: the first four stages leave a missed window's entry what it was but for score, class proposal and pool; then the fifth
charges it, or frees it. -/
theorem missedWindowCharged : Obligations.MissedWindowCharged := by
  intro ago n p r s hdue hlive hmissed e scored
  have hm : Missed p r := hmissed
  obtain ⟨hbeside, hothers⟩ := touches_pooledState (s.engine.planOf ago).round p r (shutWindow ago n s)
  have hentry := entry_pooledState_missed hm (s.engine.planOf ago).round (shutWindow ago n s)
  have hports := ports_pooledState_missed hm (s.engine.planOf ago).round (shutWindow ago n s)
  have hcharged := charged_pooledState (s.engine.planOf ago).round p r (shutWindow ago n s)
  have hdepart := departEntry_missed hm (s.engine.planOf ago).round (shutWindow ago n s)
  have hexec := exec_missed hdue hlive hm
  have hkept := missedTo_kept s.live.link e
  have hvalue := @missedTo_charged s.live.link e
  obtain ⟨hstate, -, -, -, hmiss, hlast, hseq, -⟩ := hkept
  generalize pooledState (s.engine.planOf ago).round p r (shutWindow ago n s) = w at hbeside hothers hentry hports hcharged hdepart hexec
  have hwmissed : (w.entry p.index).missed = e.missed := by rw [hentry]; exact hmiss
  have hwlive : w.live = s.live := by rw [hbeside]; rfl
  have hworder : w.order = s.order := by rw [hbeside]; rfl
  have hwanswers : w.answers = s.answers := by rw [hbeside]; rfl
  by_cases hcharge : (s.engine.planOf ago).grace = true ∨ e.state.charged = false
  · rw [missedWindow_not (hcharge.imp_right hcharged.trans)] at hexec
    refine ⟨w, hexec, hothers, by rw [hbeside]; rfl, hwlive, by rw [hbeside]; rfl, by rw [hbeside]; rfl, by rw [hbeside]; rfl,
      by rw [hbeside]; rfl, fun hg hc => ?_, fun _ => ⟨hworder, hwanswers, hports, ?_, hwmissed, ?_, ?_⟩, fun hg hc => ?_⟩
    · rcases hcharge with h | h
      · rw [hg] at h; cases h
      · rw [hc] at h; cases h
    · rw [hentry]; exact hstate
    · rw [hentry]; exact hlast
    · rw [hentry]; exact hseq
    · rcases hcharge with h | h
      · rw [hg] at h; cases h
      · rw [hc] at h; cases h
  · obtain ⟨hg, hc⟩ := not_or.mp hcharge
    have hg' : (s.engine.planOf ago).grace = false := by simpa using hg
    have hc' : e.state.charged = true := by simpa using hc
    by_cases hlimit : s.live.roster.missLimit ≤ e.missed + 1
    · rw [missedWindow_limit hg' (hcharged.trans hc') (by rw [hwlive, hwmissed]; exact hlimit)] at hexec
      obtain ⟨hframe, hvacant, hrest, horder, -, -⟩ := departEntry_spec p.index (w.setEntry p.index (chargedTo (w.entry p.index)))
      obtain ⟨hdports, hdcontrol⟩ := hdepart
      generalize departEntry p.index (w.setEntry p.index (chargedTo (w.entry p.index))) = t
        at hexec hframe hvacant hrest horder hdports hdcontrol
      refine ⟨t, hexec, fun j hj => (hrest j hj).trans ((entry_setEntry_ne w _ hj.symm).trans (hothers j hj)), ?_, ?_, ?_, ?_, ?_, ?_,
        fun _ _ hlt => absurd hlimit (Nat.not_le.mpr hlt), fun hno => absurd hno hcharge,
        fun _ _ _ => ⟨hvacant, ?_, hdports.trans ?_, fun hsent => (hdcontrol hsent).trans (control_notifyAll_congr _ rfl)⟩⟩
      case refine_7 => rw [horder, setEntry_order, hworder]
      case refine_8 => exact if_congr Iff.rfl (sendToPeer_ports_congr _ _ rfl rfl) rfl
      all_goals rw [hframe, hbeside]; rfl
    · rw [missedWindow_below hg' (hcharged.trans hc') (by rw [hwlive, hwmissed]; exact Nat.not_le.mp hlimit)] at hexec
      refine ⟨_, hexec, fun j hj => (entry_setEntry_ne w _ hj.symm).trans (hothers j hj), by rw [hbeside]; rfl, hwlive,
        by rw [hbeside]; rfl, by rw [hbeside]; rfl, by rw [hbeside]; rfl, by rw [hbeside]; rfl,
        fun _ _ _ => ⟨hworder, hwanswers, hports, ?_⟩, fun hno => absurd hno hcharge, fun _ _ hle => absurd hle hlimit⟩
      rw [entry_setEntry_self]
      have hscored : missedTo s.live.link e = if e.state = .active then scored.propose s.live.link else scored := hvalue hc'
      rw [← hscored]
      exact chargedTo_eq hentry hmiss

/-- Before stage 5 a heard window has left the ports and the control link, where nothing was sent, no record made and no report read. -/
theorem pooledState_quiet {b : Burst} {bytes : List Byte} {m c : Nat} (h : p.Hears bytes b) (ha : ¬ (s.entry p.index).Accepts b)
    (hsent : p.sent = .nothing) (hstate : (s.entry p.index).state ≠ .active) (round : RoundNumber) :
    (pooledState round p (.passed m c bytes) s).ports = s.ports ∧ (pooledState round p (.passed m c bytes) s).control = s.control := by
  have hpool : pooledState round p (.passed m c bytes) s = assessedState round p (.passed m c bytes) s := stagePool_nothing hsent
  rw [hpool, assessedState_quiet h (.inl hstate), routedState_quiet h ha (.inl fun v => by rw [hsent]; exact nofun)]
  exact ⟨rfl, rfl⟩

/-- Settles O39: the first four stages move score and sequence, the fifth ends the misses and completes the join or the arrival. -/
theorem heardWindowRenews : Obligations.HeardWindowRenews := by
  intro ago n p m c bytes b s hdue h e sample score accepted
  obtain ⟨hbeside, hothers⟩ := touches_pooledState (s.engine.planOf ago).round p (.passed m c bytes) (shutWindow ago n s)
  have hkept := (staged (s.engine.planOf ago).round p (.passed m c bytes) (shutWindow ago n s)).kept
  have hseq := lastSeq_pooledState h (s.engine.planOf ago).round m c (shutWindow ago n s)
  have hscore := score_pooledState h (s.engine.planOf ago).round m c (shutWindow ago n s)
  have hquiet := pooledState_quiet (s := shutWindow ago n s) (m := m) (c := c) h (round := (s.engine.planOf ago).round)
  have hexec := exec_heard hdue h m c
  generalize pooledState (s.engine.planOf ago).round p (.passed m c bytes) (shutWindow ago n s) = w
    at hbeside hothers hkept hseq hscore hquiet hexec
  obtain ⟨⟨hlastly, hrest⟩, hentry, -, -⟩ := heardWindow_spec (s.engine.planOf ago).round p.index w
  have hsets := heardTo_sets (s.engine.planOf ago).round (w.entry p.index)
  rw [← hentry] at hsets
  obtain ⟨hcar, hmissed, hlast, hheard, hsequence, hscored⟩ := hsets
  have haccepted : accepted = true ↔ e.Accepts b := decide_eq_true_iff.trans accepts_iff.symm
  have hnot (hno : accepted = false) : ¬ e.Accepts b := fun ha => by rw [haccepted.mpr ha] at hno; cases hno
  have hrate : (w.entry p.index).rate = e.rate := congrArg (fun cls => Option.getD cls RateClass.a) hkept.cls
  refine ⟨_, hexec, fun j hj => (hrest j hj).trans (hothers j hj), ?_, ?_, ?_, ?_, hcar.trans hkept.car, hmissed, hlast, hheard,
    hsequence.trans ?_, hscored.trans hscore, fun hj => ?_, fun ha => ?_, fun hoff => ?_, fun hactive => ?_⟩
  iterate 4 rw [hlastly, hbeside]; rfl
  · split
    · next ha => exact hseq.1 (haccepted.mp ha)
    · next ha => exact hseq.2 fun h => ha (haccepted.mpr h)
  · have hnotActive : (s.entry p.index).state ≠ .active := by rw [hj]; decide
    obtain ⟨hstate, -, -⟩ := hkept.notActive hnotActive
    have hwj : (w.entry p.index).state = .joining := hstate.trans hj
    rw [hentry, heardTo_joining hwj]
    refine ⟨rfl, fun hsent hno => ?_⟩
    obtain ⟨-, hlink⟩ := hquiet (hnot hno) hsent hnotActive
    have hpost : (heardWindow (s.engine.planOf ago).round p.index w).control =
        w.control.post (.joined (w.entry p.index).car p.index (w.entry p.index).rate (w.entry p.index).granted) := by
      rw [heardWindow_joining hwj]
      rfl
    rw [hpost, hlink, hkept.car, hkept.granted, hrate]
    rfl
  · have hnotActive : (s.entry p.index).state ≠ .active := by rw [ha]; decide
    obtain ⟨hstate, hpeer, -⟩ := hkept.notActive hnotActive
    have hwa : (w.entry p.index).state = .arriving := hstate.trans ha
    rw [hentry, heardTo_arriving hwa]
    refine ⟨rfl, rfl, rfl, fun hsent hno => ?_⟩
    obtain ⟨hsame, hlink⟩ := hquiet (hnot hno) hsent hnotActive
    have heq := heardWindow_arriving (round := (s.engine.planOf ago).round) hwa
    rw [hkept.car, hkept.granted, hrate, hpeer] at heq
    rw [heq]
    refine ⟨(notify_ports ..).trans (sendToPeer_ports_congr _ _ hsame ?_), ?_⟩
    · rw [setEntry_image, hbeside]
      rfl
    · refine congrArg (ControlLink.post _) ?_
      rw [sendToPeer_control, setEntry_control, hlink]
      rfl
  · obtain ⟨hstate, -, -⟩ := hkept.notActive (show (s.entry p.index).state ≠ .active by rcases hoff with h | h <;> rw [h] <;> decide)
    have hwstate : (w.entry p.index).state = e.state := hstate
    rw [hentry, heardTo_other (by rw [hwstate]; rcases hoff with h | h <;> rw [h] <;> decide)
      (by rw [hwstate]; rcases hoff with h | h <;> rw [h] <;> decide)]
    exact hstate
  · have hwstate := hkept.active hactive
    rw [hentry, heardTo_other (by rcases hwstate with h | h <;> rw [h] <;> decide) (by rcases hwstate with h | h <;> rw [h] <;> decide)]
    exact hwstate

end Sys2Proof.Proofs
end

section
/-!
PROOFS. The neighbour report of a heard window, the candidate and the handover trigger (R59 to R62, R108).
-/
namespace Sys2Proof.Proofs
open Sys2Proof.Machine

section
variable {s t : State} {i : Index} {b : Burst} {f : Nat × Nat} {l : LinkGroup} {e e' : Entry}

/-! ### The candidate of a heard window -/

theorem trackedActive_none (h : b.nbrValid = false ∨ s.portFacing b.nbrNode = none) (f : Nat × Nat) (e : Entry) :
    trackedActive s b f e = { scoredActive s.live.link (some (b, f)) e with candidate := none, nbrScore := 0, leadCount := 0 } := by
  rw [trackedActive, neighbourReport_none h]
  rfl

/-- N after a report: moved for the candidate, made afresh for another neighbour (R60). -/
def nbrScoreAfter (b : Burst) (e : Entry) : Nat :=
  if e.candidate = some b.nbrNode then moveScore e.nbrScore (4 * min b.nbrMargin 63) else 4 * min b.nbrMargin 63

/-- The lead count after a report, by the updated score (R61). -/
def leadCountAfter (l : LinkGroup) (b : Burst) (score : Nat) (e : Entry) : Nat :=
  if score + l.hysteresis ≤ nbrScoreAfter b e then (if e.candidate = some b.nbrNode then e.leadCount else 0) + 1 else 0

theorem trackedActive_some {port : PortId} (h : b.nbrValid = true) (hp : s.portFacing b.nbrNode = some port) (f : Nat × Nat) (e : Entry) :
    trackedActive s b f e = { scoredActive s.live.link (some (b, f)) e with
      candidate := some b.nbrNode, nbrScore := nbrScoreAfter b e
      leadCount := leadCountAfter s.live.link b (scoredActive s.live.link (some (b, f)) e).score e } := by
  have hscored := scoredActive_eq s.live.link (some (b, f)) e
  have hcandidate : (scoredActive s.live.link (some (b, f)) e).candidate = e.candidate := by rw [hscored]
  have hnbr : (scoredActive s.live.link (some (b, f)) e).nbrScore = e.nbrScore := by rw [hscored]
  have hlead : (scoredActive s.live.link (some (b, f)) e).leadCount = e.leadCount := by rw [hscored]
  rw [trackedActive, neighbourReport_some h hp]
  simp only [Entry.track, hcandidate, hnbr, hlead, nbrScoreAfter, leadCountAfter]
  rfl

/-- The OFFER of a tracked entry tells what the scored one does, but for N (R105). -/
theorem offerBody_tracked (l : LinkGroup) (heard : Option (Burst × Nat × Nat)) (e : Entry) (c : Option Byte) (n lead : Nat) :
    ({ scoredActive l heard e with candidate := c, nbrScore := n, leadCount := lead } : Entry).offerBody =
      { car := e.car, cls := byteOf e.rate.code, allowance := e.granted.zeroExtend 8, survey := flagByte e.survey, score := byteOf n
        lastSeq := seqByte e.lastSeq, nextSeq := e.nextSeq.zeroExtend 8 } := by
  rw [scoredActive_eq]
  rfl

theorem scoredActive_kept (l : LinkGroup) (heard : Option (Burst × Nat × Nat)) (e : Entry) : (scoredActive l heard e).car = e.car ∧
    (scoredActive l heard e).rate = e.rate ∧ (scoredActive l heard e).granted = e.granted := by
  rw [scoredActive_eq]
  exact ⟨rfl, rfl, rfl⟩

theorem assessWindow_report {port : PortId} (hactive : (s.entry i).state = .active) (h : b.nbrValid = true)
    (hp : s.portFacing b.nbrNode = some port) :
    assessWindow i (some (b, f)) s = triggerHandover i (s.setEntry i (trackedActive s b f (s.entry i))) :=
  (assessWindow_active_heard hactive).trans (if_pos (by rw [neighbourReport_some h hp]; rfl))

/-! ### What the assessor reads of an entry -/

/-- An entry with the counts and the last sequence of another. -/
def recounted (e' e : Entry) : Entry :=
  { e with good := e'.good, failed := e'.failed, corrected := e'.corrected, lastSeq := e'.lastSeq }

theorem scoredActive_recounted (l : LinkGroup) (heard : Option (Burst × Nat × Nat)) (e' e : Entry) :
    scoredActive l heard (recounted e' e) = recounted e' (scoredActive l heard e) := by
  unfold scoredActive Entry.propose
  rw [apply_ite (recounted e'), apply_ite (recounted e'), apply_ite (recounted e'), apply_ite (recounted e')]
  rfl

theorem track_recounted (l : LinkGroup) (r : Option (Byte × Nat)) (e' e : Entry) :
    (recounted e' e).track l r = recounted e' (e.track l r) := by
  cases r <;> rfl

theorem leadTo_recounted (l : LinkGroup) (h : HandoverGroup) (can : Bool) (n : Byte) (e' e : Entry) :
    leadTo l h can n (recounted e' e) = recounted e' (leadTo l h can n e) := by
  unfold leadTo
  rw [apply_ite (recounted e'), apply_ite (recounted e'), apply_ite (recounted e')]
  rfl

/-! ### What stage 2 leaves of the ports -/

/-- Every port is as much UP and has the same handover out queue. -/
def SameHandoverOut (s t : State) : Prop := ∀ q, (t.port q).isUp = (s.port q).isUp ∧ (t.port q).handover = (s.port q).handover

theorem submitPass_handover {x : Port} (h : x.Held) (g : ChainFrame) :
    (x.submitPass g).isUp = x.isUp ∧ (x.submitPass g).handover = x.handover := by
  rw [submitPass_spec]
  split
  · refine ⟨(Port.kick_frame _).1, ?_⟩
    cases hline : x.line with
    | some g' => simp [Port.kick]
    | none =>
      obtain ⟨hnil, hpass⟩ := h.sending hline
      simp [Port.kick, hnil, hpass]
  · exact ⟨rfl, rfl⟩

theorem sameHandoverOut_of_ports (h : t.ports = s.ports) : SameHandoverOut s t := fun q => by
  cases q <;> simp only [State.port, h, and_self]

theorem sameHandoverOut_routeBurst (hup : s.ports.up.Held) (hdown : s.ports.down.Held) (round : RoundNumber) (p : Position) (b : Burst)
    (f : Nat × Nat) : SameHandoverOut s (routeBurst round p b f s) := by
  simp only [routeBurst]
  split
  · exact sameHandoverOut_of_ports (deposit_ports ..)
  · exact fun q => ⟨rfl, rfl⟩
  · split
    · next port _ =>
      have hheld : (s.port port).Held := by cases port <;> assumption
      intro q
      by_cases hq : port = q
      · subst hq
        unfold sendPass
        rw [port_updatePort_self]
        exact submitPass_handover hheld _
      · unfold sendPass
        rw [port_updatePort_ne s _ hq]
        exact ⟨rfl, rfl⟩
    · exact sameHandoverOut_of_ports (deposit_ports ..)

theorem ports_surveyReport (round : RoundNumber) (p : Position) (echo : List Byte) (f : Nat × Nat) (s : State) :
    (surveyReport round p echo f s).ports = s.ports := by
  unfold surveyReport
  repeat' split
  · exact deposit_ports ..
  · rfl
  · rfl

theorem sameHandoverOut_stageRoute (hup : s.ports.up.Held) (hdown : s.ports.down.Held) (round : RoundNumber) (p : Position)
    (o : WindowOutcome) (f : Nat × Nat) : SameHandoverOut s (stageRoute round p o f s) := by
  by_cases hnot : ∀ b', o ≠ .accepted b'
  · obtain ⟨f', h⟩ := stageRoute_not_accepted hnot round p f s
    exact h ▸ sameHandoverOut_of_ports (ports_surveyReport ..)
  · obtain ⟨b, hb⟩ := not_forall.mp hnot
    rw [not_not.mp hb, stageRoute_accepted]
    split
    · exact sameHandoverOut_of_ports (ports_surveyReport ..)
    · have hroute := sameHandoverOut_routeBurst (s := s.setEntry p.index { s.entry p.index with lastSeq := some b.seq }) hup hdown round p b f
      have hsurvey := sameHandoverOut_of_ports (ports_surveyReport round p [] f
        (routeBurst round p b f (s.setEntry p.index { s.entry p.index with lastSeq := some b.seq })))
      exact fun q => ⟨(hsurvey q).1.trans (hroute q).1, (hsurvey q).2.trans (hroute q).2⟩

theorem canOffer_congr (h : SameHandoverOut s t) (hengine : t.engine.state = s.engine.state) (p : PortId) : t.canOffer p = s.canOffer p := by
  obtain ⟨hup, hout⟩ := h p
  rw [State.canOffer, State.canOffer, hup, hout, hengine]

/-! ### What the assessor does in the run of the stages -/

/-- The assessor on an entry with other counts and another last sequence, and ports with the same handover out queues. -/
theorem assessWindow_recounted (hactive : (s.entry i).state = .active) (hentry : t.entry i = recounted (t.entry i) (s.entry i))
    (hlive : t.live = s.live) (himage : t.image = s.image) (hcan : ∀ p, t.canOffer p = s.canOffer p)
    (hcount : t.counters.notStarted = s.counters.notStarted) (b : Burst) (f : Nat × Nat) :
    (assessWindow i (some (b, f)) t).entry i = recounted (t.entry i) ((assessWindow i (some (b, f)) s).entry i) ∧
    (assessWindow i (some (b, f)) t).counters.notStarted = (assessWindow i (some (b, f)) s).counters.notStarted := by
  have hactive' : (t.entry i).state = .active := by rw [hentry]; exact hactive
  have hreport : t.neighbourReport b = s.neighbourReport b := by
    unfold State.neighbourReport
    rw [portFacing_congr himage]
  have htracked : trackedActive t b f (t.entry i) = recounted (t.entry i) (trackedActive s b f (s.entry i)) := by
    unfold trackedActive
    rw [hreport, hlive]
    refine (congrArg (fun e => Entry.track s.live.link (s.neighbourReport b) (scoredActive s.live.link (some (b, f)) e)) hentry).trans ?_
    rw [scoredActive_recounted, track_recounted]
  cases hsome : (s.neighbourReport b).isSome with
  | false =>
    rw [assessWindow_active_heard hactive, assessWindow_active_heard hactive', hreport, hsome, htracked]
    exact ⟨(entry_setEntry_self ..).trans (congrArg _ (entry_setEntry_self ..).symm), hcount⟩
  | true =>
    obtain ⟨port, hport, hcandidate⟩ := tracked_of_report hsome s.live.link (scoredActive s.live.link (some (b, f)) (s.entry i))
    obtain ⟨hs, hsc⟩ := triggered_spec (i := i) hcandidate hport
    have hcandidate' : (recounted (t.entry i) (trackedActive s b f (s.entry i))).candidate = some b.nbrNode := hcandidate
    obtain ⟨ht, htc⟩ := triggered_spec (i := i) hcandidate' ((portFacing_congr himage b.nbrNode).trans hport)
    rw [assessWindow_active_heard hactive, assessWindow_active_heard hactive', hreport, hsome, htracked]
    refine ⟨ht.trans ?_, (congrArg NodeCounters.notStarted htc).trans (.trans ?_ (congrArg NodeCounters.notStarted hsc).symm)⟩
    · rw [leadTo_recounted, hlive, hcan]
      exact congrArg _ hs.symm
    · rw [hlive, hcan, hcount]
      rfl

/-- What the first two stages leave of the assessor's view. -/
theorem canOffer_routedState {p : Position} {r : UplinkResult} (hup : s.ports.up.Held) (hdown : s.ports.down.Held) (round : RoundNumber)
    (q : PortId) : (routedState round p r s).canOffer q = s.canOffer q := by
  have hengine : (routedState round p r s).engine = s.engine := by rw [(touches_routedState round p r s).beside]
  exact canOffer_congr (s := s) (t := routedState round p r s) (sameHandoverOut_stageRoute (s := countedState p r s) hup hdown round p _ _)
    (congrArg Engine.state hengine) q

theorem canOffer_shutWindow (ago : Fin 3) (n : Nat) (s : State) (q : PortId) : (shutWindow ago n s).canOffer q = s.canOffer q :=
  have hengine : (shutWindow ago n s).engine.state = s.engine.state := by fin_cases ago <;> rfl
  canOffer_congr (s := s) (t := shutWindow ago n s) (fun _ => ⟨rfl, rfl⟩) hengine q

theorem notStarted_window (o : WindowOutcome) (c : Nat) (n : NodeCounters) : (n.window o c).notStarted = n.notStarted := by
  cases o <;> rfl

/-- The assessor's stage of the run of the stages does to a heard window's ACTIVE entry what it does in the state before the window. -/
theorem assessedState_heard {p : Position} {bytes : List Byte} (h : p.Hears bytes b) (hactive : (s.entry p.index).state = .active)
    (hup : s.ports.up.Held) (hdown : s.ports.down.Held) (round : RoundNumber) (m c : Nat) :
    let u := assessWindow p.index (some (b, min m 63, min c 15)) s
    let t := assessedState round p (.passed m c bytes) s
    (∃ x, t.entry p.index = recounted x (u.entry p.index)) ∧ t.counters.notStarted = u.counters.notStarted := by
  intro u t
  have ht : t = assessWindow p.index (some (b, min m 63, min c 15)) (routedState round p (.passed m c bytes) s) := by
    have htdef : t = assessedState round p (.passed m c bytes) s := rfl
    rw [htdef, assessedState, heard_classify h]
    rfl
  obtain ⟨hentry, hcount⟩ := assessWindow_recounted (t := routedState round p (.passed m c bytes) s) hactive
    (staged round p (.passed m c bytes) s).routed (by rw [(touches_routedState round p (.passed m c bytes) s).beside])
    (by rw [(touches_routedState round p (.passed m c bytes) s).beside]) (canOffer_routedState hup hdown round)
    (by rw [counters_routedState, notStarted_window]) b (min m 63, min c 15)
  rw [← ht] at hentry hcount
  exact ⟨⟨_, hentry⟩, hcount⟩

/-- After the assessor nothing but the miss count and the heard mark of a tracked entry changes. -/
theorem tracking_kept {x y e₁ e₂ e₃ : Entry} (h₂ : e₂ = recounted x (recounted y e₁)) (h₃ : Pooled e₃ e₂) (round : RoundNumber) :
    (e₃.hearNow round).candidate = e₁.candidate ∧ (e₃.hearNow round).nbrScore = e₁.nbrScore ∧
    (e₃.hearNow round).leadCount = e₁.leadCount ∧ (e₃.hearNow round).state = e₁.state ∧ (e₃.hearNow round).peer = e₁.peer ∧
    (e₃.hearNow round).phaseTimer = e₁.phaseTimer ∧ (e₃.hearNow round).wanted = e₁.wanted ∧
    (e₃.hearNow round).upCount = e₁.upCount := by
  subst h₂
  rw [h₃]
  exact ⟨rfl, rfl, rfl, rfl, rfl, rfl, rfl, rfl⟩

end

/-- Settles O40: the report tracked and the lead acted on, by the assessor alone and in the run of the stages. -/
theorem leadStartsHandover : Obligations.LeadStartsHandover := by
  refine ⟨?_, fun i s hactive => assessWindow_active_missed hactive, ?_⟩
  · intro i b m c s hactive e scored t
    refine ⟨fun hno => ?_, ?_⟩
    · have ht : t = assessWindow i (some (b, m, c)) s := rfl
      rw [ht, assessWindow_active_heard hactive, neighbourReport_none hno, trackedActive_none hno]
      rfl
    · intro port hvalid hport same sample n tracked
      have ht : t = triggerHandover i (s.setEntry i (trackedActive s b (m, c) e)) := assessWindow_report hactive hvalid hport
      have htracked : trackedActive s b (m, c) e = tracked := by
        rw [trackedActive_some hvalid hport]
        simp only [nbrScoreAfter, leadCountAfter, tracked, n, same, sample, decide_eq_true_eq]
        rfl
      rw [htracked] at ht
      rw [ht]
      have hcandidate : tracked.candidate = some b.nbrNode := rfl
      refine ⟨triggered_below, fun hlead => ⟨triggered_disabled hlead, fun hd => ⟨fun hcan => ?_, triggered_not hlead hd hcandidate hport⟩⟩⟩
      obtain ⟨hcar, hrate, hgranted⟩ := scoredActive_kept s.live.link (some (b, m, c)) e
      have hbody := offerBody_tracked s.live.link (some (b, m, c)) e (some b.nbrNode) n tracked.leadCount
      refine (triggered_offers hlead hd hcandidate hport hcan).trans ?_
      rw [show tracked.car = e.car from hcar, show tracked.rate = e.rate from hrate, show tracked.granted = e.granted from hgranted,
        show tracked.offerBody = _ from hbody]
  · intro ago n p m c bytes b s hdue h hactive hup hdown u
    obtain ⟨⟨x, hassessed⟩, hcount⟩ := assessedState_heard (s := shutWindow ago n s) h hactive hup hdown (s.engine.planOf ago).round m c
    obtain ⟨hshut, hshutCount⟩ := assessWindow_recounted (t := shutWindow ago n s) hactive rfl rfl rfl (canOffer_shutWindow ago n s) rfl b
      (min m 63, min c 15)
    have hpooled := (staged (s.engine.planOf ago).round p (.passed m c bytes) (shutWindow ago n s)).pooled
    have hactiveAfter := (staged (s.engine.planOf ago).round p (.passed m c bytes) (shutWindow ago n s)).kept.active hactive
    obtain ⟨-, hheard, hcounters, -⟩ := heardWindow_spec (s.engine.planOf ago).round p.index
      (pooledState (s.engine.planOf ago).round p (.passed m c bytes) (shutWindow ago n s))
    have hpool : (pooledState (s.engine.planOf ago).round p (.passed m c bytes) (shutWindow ago n s)).counters =
      (assessedState (s.engine.planOf ago).round p (.passed m c bytes) (shutWindow ago n s)).counters := (frame_stagePool ..).1
    have hexec := exec_heard hdue h m c
    rw [hshut] at hassessed
    generalize assessedState (s.engine.planOf ago).round p (.passed m c bytes) (shutWindow ago n s) = v at hassessed hcount hpooled hpool
    generalize pooledState (s.engine.planOf ago).round p (.passed m c bytes) (shutWindow ago n s) = w
      at hpooled hactiveAfter hheard hcounters hpool hexec
    refine ⟨_, hexec, ?_⟩
    rw [hheard, heardTo_other (by rcases hactiveAfter with h | h <;> rw [h] <;> decide)
      (by rcases hactiveAfter with h | h <;> rw [h] <;> decide), hcounters, hpool, hcount, hshutCount]
    obtain ⟨h1, h2, h3, h4, h5, h6, h7, h8⟩ := tracking_kept hassessed hpooled (s.engine.planOf ago).round
    exact ⟨h1, h2, h3, h4, h5, h6, h7, h8, rfl⟩

end Sys2Proof.Proofs
end

section
/-!
PROOFS. Where the burst of a heard window goes, and what the survey reports (R69 to R75, R79 to R82, R134, R158, R159).
-/
namespace Sys2Proof.Proofs
open Sys2Proof.Machine

section
variable {s t : State} {i : Index} {p : Position} {b : Burst} {f : Nat × Nat} {round : RoundNumber} {m c : Nat} {bytes : List Byte}

/-! ### The route of a burst -/

theorem destination_eq (s : State) (b : Burst) : destination s.image.filter b.kind b.car = s.routeOf b := by
  have hmatches : (fun f : FilterEntry => f.matches b.kind b.car) = fun f : FilterEntry =>
      decide (f.enable = true ∧ f.low ≤ b.kind ∧ b.kind ≤ f.high ∧ (f.car = 0 ∨ f.car = b.car)) := by
    funext f
    rw [Bool.eq_iff_iff]
    simp [FilterEntry.matches, and_assoc]
  unfold destination State.routeOf
  rw [hmatches]
  cases s.image.filter.find? _ <;> rfl

/-- The queue that a burst goes to, when it goes to one (R74, R75, R134). -/
def GoesTo (s : State) (b : Burst) (q : Fin 4) : Prop :=
  s.routeOf b = .queue q ∨ (s.routeOf b = .passAlong ∧ s.portalPort = none ∧ q = s.image.queues.portal)

theorem routeBurst_deposits {q : Fin 4} (h : GoesTo s b q) (round : RoundNumber) (p : Position) (f : Nat × Nat) :
    routeBurst round p b f s = deposit q (burstRecord s.image.node.node round p b f) s := by
  rcases h with h | ⟨h, hself, rfl⟩
  · simp only [routeBurst, destination_eq, h]
  · simp only [routeBurst, destination_eq, h, hself]

theorem routeBurst_discards (h : s.routeOf b = .discard) (round : RoundNumber) (p : Position) (f : Nat × Nat) :
    routeBurst round p b f s = s := by
  simp only [routeBurst, destination_eq, h]

theorem routeBurst_passes {port : PortId} (h : s.routeOf b = .passAlong) (hport : s.portalPort = some port) (round : RoundNumber)
    (p : Position) (f : Nat × Nat) : routeBurst round p b f s = sendPass port 0 (burstPass s.image.node.node round b f) s := by
  simp only [routeBurst, destination_eq, h, hport]

/-! ### States that routing does not tell apart -/

/-- Two states with the same queues, settings, control link and ports. -/
structure SameRouting (s t : State) : Prop where
  queues : t.queues = s.queues
  image : t.image = s.image
  control : t.control = s.control
  ports : t.ports = s.ports

theorem SameRouting.route (h : SameRouting s t) (b : Burst) : t.routeOf b = s.routeOf b := by
  rw [State.routeOf, h.image, State.routeOf]

theorem SameRouting.portal (h : SameRouting s t) : t.portalPort = s.portalPort := by
  rw [State.portalPort, h.image, State.portalPort]

theorem SameRouting.goesTo (h : SameRouting s t) {q : Fin 4} (hq : GoesTo s b q) : GoesTo t b q := by
  rw [GoesTo, h.route, h.portal, h.image]
  exact hq

theorem rx_congr (h : t.queues = s.queues) (q : Fin 4) : t.rx q = s.rx q := by rw [State.rx, h, State.rx]

/-- The state whose burst stage 2 routes: the window counted and the sequence kept. -/
def keptState (p : Position) (r : UplinkResult) (b : Burst) (s : State) : State :=
  (countedState p r s).setEntry p.index { (countedState p r s).entry p.index with lastSeq := some b.seq }

theorem sameRouting_keptState (p : Position) (r : UplinkResult) (b : Burst) (s : State) : SameRouting s (keptState p r b s) :=
  ⟨rfl, rfl, rfl, rfl⟩

theorem survey_countWindow (o : WindowOutcome) (c : Nat) (e : Entry) : (e.countWindow o c).survey = e.survey := by
  cases o <;> rfl

theorem survey_countedState (p : Position) (r : UplinkResult) (s : State) :
    ((countedState p r s).entry p.index).survey = (s.entry p.index).survey :=
  (congrArg Entry.survey (entry_setEntry_self ..)).trans (survey_countWindow ..)

theorem survey_keptState (p : Position) (r : UplinkResult) (b : Burst) (s : State) :
    ((keptState p r b s).entry p.index).survey = (s.entry p.index).survey :=
  (congrArg Entry.survey (entry_setEntry_self ..)).trans (survey_countedState ..)

/-- Stage 2 of an accepted burst that is the echo of a surveyed car (R73). -/
theorem routedState_echo (h : p.Hears bytes b) (ha : (s.entry p.index).Accepts b) (hecho : b.kind = 63)
    (hsurvey : (s.entry p.index).survey = true) : routedState round p (.passed m c bytes) s =
      surveyReport round p b.payload (min m 63, min c 15) (keptState p (.passed m c bytes) b s) := by
  unfold routedState
  rw [classify_accepts h ha, stageRoute_accepted, if_pos ⟨hecho, by rw [survey_countedState, hsurvey]⟩]
  rfl

/-- Stage 2 of an accepted burst that is none (R71, R73). -/
theorem routedState_record (h : p.Hears bytes b) (ha : (s.entry p.index).Accepts b)
    (hrecord : b.kind ≠ 63 ∨ (s.entry p.index).survey = false) : routedState round p (.passed m c bytes) s =
      surveyReport round p [] (min m 63, min c 15) (routeBurst round p b (min m 63, min c 15) (keptState p (.passed m c bytes) b s)) := by
  unfold routedState
  rw [classify_accepts h ha, stageRoute_accepted, if_neg]
  · rfl
  · rintro ⟨hkind, hsurvey⟩
    rw [survey_countedState] at hsurvey
    rcases hrecord with h | h
    · exact h hkind
    · rw [h] at hsurvey
      cases hsurvey

theorem survey_routeBurst (round : RoundNumber) (p : Position) (b : Burst) (f : Nat × Nat) (i : Index) (s : State) :
    ((routeBurst round p b f s).entry i).survey = (s.entry i).survey :=
  congrArg Entry.survey (entry_congr (roster_routeBurst ..) i)

/-- With nothing for the survey queue, stage 2 of such a burst is its routing alone. -/
theorem routedState_record_quiet (h : p.Hears bytes b) (ha : (s.entry p.index).Accepts b)
    (hrecord : b.kind ≠ 63 ∨ (s.entry p.index).survey = false)
    (hquiet : (∀ v, p.sent ≠ .pattern v) ∨ (s.entry p.index).survey = false) : routedState round p (.passed m c bytes) s =
      routeBurst round p b (min m 63, min c 15) (keptState p (.passed m c bytes) b s) :=
  (routedState_record h ha hrecord).trans (surveyReport_rests
    (hquiet.imp_right fun hno => (survey_routeBurst ..).trans ((survey_keptState ..).trans hno)) _ _ _)

/-! ### The later stages leave the queues -/

theorem queues_triggered {e : Entry} {n : Byte} {port : PortId} (hc : e.candidate = some n) (hp : s.portFacing n = some port) :
    (triggerHandover i (s.setEntry i e)).queues = s.queues := by
  by_cases hlead : e.leadCount < s.live.link.leadRounds
  · rw [triggered_below hlead]
    rfl
  · have hlead' := Nat.not_lt.mp hlead
    cases hd : s.live.handover.enable with
    | false =>
      rw [triggered_disabled hlead' hd]
      rfl
    | true =>
      cases hcan : s.canOffer port with
      | false =>
        rw [triggered_not hlead' hd hc hp hcan]
        rfl
      | true =>
        rw [triggered_offers hlead' hd hc hp hcan]
        exact updatePort_queues ..

theorem queues_assessWindow (i : Index) (heard : Option (Burst × Nat × Nat)) (s : State) : (assessWindow i heard s).queues = s.queues := by
  by_cases hactive : (s.entry i).state = .active
  · cases heard with
    | none =>
      rw [assessWindow_active_missed hactive]
      rfl
    | some x =>
      rcases assessWindow_active_spec (b := x.1) (f := x.2) hactive with ⟨-, heq⟩ | ⟨port, hport, hcandidate, heq⟩
      · rw [heq]
        rfl
      · rw [heq]
        exact queues_triggered hcandidate hport
  · rw [assessWindow_plain (.inl hactive)]
    rfl

theorem queues_pooledState (round : RoundNumber) (p : Position) (r : UplinkResult) (s : State) :
    (pooledState round p r s).queues = (routedState round p r s).queues :=
  (frame_stagePool ..).2.2.trans (queues_assessWindow ..)

/-- The queues after a heard window are those that stage 2 leaves. -/
theorem queues_heard (round : RoundNumber) (p : Position) (r : UplinkResult) (s : State) :
    (heardWindow round p.index (pooledState round p r s)).queues = (routedState round p r s).queues :=
  (heardWindow_spec ..).2.2.2.trans (queues_pooledState ..)

theorem ports_pooledState_quiet (h : p.Hears bytes b) (hstate : (s.entry p.index).state ≠ .active) (round : RoundNumber) (m c : Nat) :
    (pooledState round p (.passed m c bytes) s).ports = (routedState round p (.passed m c bytes) s).ports := by
  have hpool : (pooledState round p (.passed m c bytes) s).ports = (assessedState round p (.passed m c bytes) s).ports :=
    (frame_stagePool ..).2.1
  rw [hpool, assessedState_quiet h (.inl hstate)]
  rfl

theorem control_pooledState_quiet (h : p.Hears bytes b) (hstate : (s.entry p.index).state ≠ .active) (hsent : ∀ k, p.sent ≠ .command k)
    (round : RoundNumber) (m c : Nat) :
    (pooledState round p (.passed m c bytes) s).control = (routedState round p (.passed m c bytes) s).control := by
  have hpool : pooledState round p (.passed m c bytes) s = assessedState round p (.passed m c bytes) s := stagePool_rests fun c _ => hsent c.number
  rw [hpool, assessedState_quiet h (.inl hstate)]
  rfl

/-- What stage 5 sends for an entry that is neither JOINING nor ARRIVING: nothing. -/
theorem heard_other (hj : (s.entry p.index).state ≠ .joining) (ha : (s.entry p.index).state ≠ .arriving)
    (hactive : (s.entry p.index).state ≠ .active) (round : RoundNumber) (r : UplinkResult) :
    (heardWindow round p.index (pooledState round p r s)).control = (pooledState round p r s).control ∧
    (heardWindow round p.index (pooledState round p r s)).ports = (pooledState round p r s).ports := by
  obtain ⟨hstate, -, -⟩ := (staged round p r s).kept.notActive hactive
  rw [heardWindow_other (by rw [hstate]; exact hj) (by rw [hstate]; exact ha)]
  exact ⟨rfl, rfl⟩

/-- For a JOINING one, JOINED. -/
theorem heard_joining (hj : (s.entry p.index).state = .joining) (round : RoundNumber) (r : UplinkResult) :
    (heardWindow round p.index (pooledState round p r s)).control = (pooledState round p r s).control.post
      (.joined (s.entry p.index).car p.index (s.entry p.index).rate (s.entry p.index).granted) ∧
    (heardWindow round p.index (pooledState round p r s)).ports = (pooledState round p r s).ports := by
  have hkept := (staged round p r s).kept
  obtain ⟨hstate, -, -⟩ := hkept.notActive (by rw [hj]; decide)
  have hrate : ((pooledState round p r s).entry p.index).rate = (s.entry p.index).rate :=
    congrArg (fun cls => Option.getD cls RateClass.a) hkept.cls
  rw [heardWindow_joining (hstate.trans hj), hkept.car, hkept.granted, hrate]
  exact ⟨rfl, rfl⟩

theorem offeringOrMoving {e : Entry} (h : e.state = .offering ∨ e.state = .moving) :
    e.state ≠ .joining ∧ e.state ≠ .arriving ∧ e.state ≠ .active := by
  rcases h with h | h <;> rw [h] <;> decide

end

/-- Settles O41: stage 2 alone touches the queues and, but for a handover that starts, the ports. -/
theorem acceptedBurstRouted : Obligations.AcceptedBurstRouted := by
  intro ago n p m c bytes b s hdue h hquiet e rec0 dest
  have hqueues := queues_heard (s.engine.planOf ago).round p (.passed m c bytes) (shutWindow ago n s)
  have hsame : SameRouting s (keptState p (.passed m c bytes) b (shutWindow ago n s)) := ⟨rfl, rfl, rfl, rfl⟩
  refine ⟨_, exec_heard hdue h m c, fun ha hkind hsurvey => ?_, fun ha hrecord => ?_, fun hno => ?_⟩
  · rw [hqueues, routedState_echo (s := shutWindow ago n s) h ha hkind hsurvey,
      surveyReport_rests (hquiet.imp_right ((survey_keptState p _ b (shutWindow ago n s)).trans ·))]
    rfl
  · have hrouted := routedState_record_quiet (s := shutWindow ago n s) (round := (s.engine.planOf ago).round) (m := m) (c := c)
      h ha hrecord hquiet
    refine ⟨fun q hq => ?_, fun hdiscard => ?_, fun port hpass hport => ?_⟩
    · rw [routeBurst_deposits (hsame.goesTo hq)] at hrouted
      obtain ⟨hdeposit, hlink⟩ := deposit_congr q rec0 hsame.queues hsame.image hsame.control
      have hrx := rx_congr (hqueues.trans ((congrArg State.queues hrouted).trans hdeposit))
      have hnotices := (congrArg State.control hrouted).trans hlink
      refine ⟨fun r hr => (hrx r).trans (deposit_other hr.symm), fun hroom => (hrx q).trans (deposit_room hroom),
        fun hfull => (hrx q).trans ((deposit_full (Nat.not_lt.mpr hfull)).trans (lose_eq _ _)), fun hsent hstate => ?_, fun hsent hj => ?_⟩
      · obtain ⟨hj, ha, hactive⟩ := offeringOrMoving hstate
        rw [(heard_other (s := shutWindow ago n s) hj ha hactive _ _).1,
          control_pooledState_quiet (s := shutWindow ago n s) h hactive (by rw [hsent]; exact nofun), hnotices]
      · have hactive : e.state ≠ .active := by rw [hj]; decide
        rw [(heard_joining (s := shutWindow ago n s) hj _ _).1,
          control_pooledState_quiet (s := shutWindow ago n s) h hactive (by rw [hsent]; exact nofun), hnotices]
        rfl
    · rw [hqueues, hrouted, routeBurst_discards ((hsame.route b).trans hdiscard)]
      rfl
    · rw [routeBurst_passes ((hsame.route b).trans hpass) (hsame.portal.trans hport)] at hrouted
      have hports := (congrArg State.ports hrouted).trans (updatePort_ports_congr port (Port.submitPass
        { src := s.image.node.node, dst := 0, hop := 0
          body := .pass (burstPass s.image.node.node (s.engine.planOf ago).round b (min m 63, min c 15)) }) hsame.ports)
      refine ⟨hqueues.trans ((congrArg State.queues hrouted).trans (updatePort_queues ..)), fun hstate => ?_⟩
      rcases hstate with hj | hstate
      · have hactive : e.state ≠ .active := by rw [hj]; decide
        rw [(heard_joining (s := shutWindow ago n s) hj _ _).2, ports_pooledState_quiet (s := shutWindow ago n s) h hactive, hports]
        rfl
      · obtain ⟨hj, ha, hactive⟩ := offeringOrMoving hstate
        rw [(heard_other (s := shutWindow ago n s) hj ha hactive _ _).2, ports_pooledState_quiet (s := shutWindow ago n s) h hactive, hports]
        rfl
  · rw [hqueues, routedState_quiet (s := shutWindow ago n s) h hno hquiet]
    rfl

end Sys2Proof.Proofs
end

section
/-!
PROOFS. The survey report of a window whose slot carried a pattern (R73, R158, R159).
-/
namespace Sys2Proof.Proofs
open Sys2Proof.Machine

/-! ### The comparison of an echo (R158) -/

theorem bitErrors_eq (x y : Byte) : bitErrors x y = ((List.range 8).filter fun j => y.getLsbD j != x.getLsbD j).length := by
  have hbit (j : Nat) : (x ^^^ y).getLsbD j = (y.getLsbD j != x.getLsbD j) := by
    rw [BitVec.getLsbD_xor]
    exact Bool.xor_comm _ _
  simp only [bitErrors, hbit]

theorem bitErrors_self (x : Byte) : bitErrors x x = 0 := by simp [bitErrors]

theorem echoErrors_nil (ps : List Byte) : echoByteErrors ps [] = ps.length ∧ echoBitErrors ps [] = ps.length * 8 := by
  refine ⟨?_, ?_⟩
  · refine (congrArg List.length (List.filter_eq_self.mpr fun i hi => ?_)).trans List.length_range
    rw [List.getElem?_nil, List.getElem?_eq_getElem (List.mem_range.mp hi)]
    rfl
  · simp [echoBitErrors]

theorem echoByteErrors_cons (x y : Byte) (ps es : List Byte) :
    echoByteErrors (x :: ps) (y :: es) = (if x = y then 0 else 1) + echoByteErrors ps es := by
  unfold echoByteErrors
  rw [List.length_cons, List.range_succ_eq_map (n := ps.length), List.filter_cons, List.filter_map]
  by_cases hxy : x = y
  · simp [hxy, Function.comp_def]
  · simp [hxy, Ne.symm hxy, Function.comp_def, Nat.add_comm]

theorem echoBitErrors_cons (x y : Byte) (ps es : List Byte) :
    echoBitErrors (x :: ps) (y :: es) = bitErrors x y + echoBitErrors ps es := by
  unfold echoBitErrors
  rw [List.length_cons, List.range_succ_eq_map (n := ps.length), List.map_cons, List.map_map, List.sum_cons, bitErrors_eq]
  rfl

theorem compareEcho_nil (ps : List Byte) : compareEcho ps [] = (ps.length, ps.length * 8) := by
  induction ps with
  | nil => rfl
  | cons x ps ih => rw [compareEcho, ih, List.length_cons, Nat.succ_mul]

theorem compareEcho_eq (pattern echo : List Byte) : compareEcho pattern echo = (echoByteErrors pattern echo, echoBitErrors pattern echo) := by
  induction pattern generalizing echo with
  | nil => cases echo <;> rfl
  | cons x ps ih =>
    cases echo with
    | nil =>
      obtain ⟨hbytes, hbits⟩ := echoErrors_nil (x :: ps)
      rw [hbytes, hbits, compareEcho_nil]
    | cons y es =>
      rw [echoByteErrors_cons, echoBitErrors_cons]
      by_cases hxy : x = y
      · subst hxy
        simp [compareEcho, ih, bitErrors_self]
      · simp [compareEcho, ih, hxy, Nat.add_comm]

/-! ### The report of a window (R159) -/

section
variable {s t : State} {p : Position} {b : Burst} {v : List Byte} {round : RoundNumber} {m c : Nat} {bytes : List Byte}

/-- The report of a window, deposited in the survey queue. -/
def reported (s : State) (round : RoundNumber) (p : Position) (v echo : List Byte) (m c : Nat) (u : State) : State :=
  deposit s.image.queues.survey (s.surveyReportOf round p v echo m c) u

theorem surveyRecord_eq (s : State) (round : RoundNumber) (p : Position) (v echo : List Byte) (m c : Nat) :
    surveyRecord s.image.node.node round p v echo (m, c) = s.surveyReportOf round p v echo m c := by
  rw [surveyRecord, compareEcho_eq]
  rfl

theorem surveyReport_reported (himage : t.image = s.image) (hsent : p.sent = .pattern v) (h : (t.entry p.index).survey = true)
    (round : RoundNumber) (echo : List Byte) (m c : Nat) : surveyReport round p echo (m, c) t = reported s round p v echo m c t := by
  rw [surveyReport_reports hsent h, himage, surveyRecord_eq]
  rfl

theorem reported_congr {u : State} (h : SameRouting t u) (s : State) (round : RoundNumber) (p : Position) (v echo : List Byte) (m c : Nat) :
    (reported s round p v echo m c u).queues = (reported s round p v echo m c t).queues ∧
    (reported s round p v echo m c u).control = (reported s round p v echo m c t).control :=
  deposit_congr _ _ h.queues h.image h.control

theorem reported_of_image (h : t.image = s.image) : reported t = reported s := by
  funext round p v echo m c u
  rw [reported, reported, h, State.surveyReportOf, h]
  rfl

theorem sameRouting_countedState (p : Position) (r : UplinkResult) (s : State) : SameRouting s (countedState p r s) := ⟨rfl, rfl, rfl, rfl⟩

theorem sameRouting_shutWindow (ago : Fin 3) (n : Nat) (s : State) : SameRouting s (shutWindow ago n s) := ⟨rfl, rfl, rfl, rfl⟩

/-- An arrival at a queue of two states that routing does not tell apart leaves such states. -/
theorem sameRouting_deposit (h : SameRouting s t) (q : Fin 4) (r : Record) : SameRouting (deposit q r s) (deposit q r t) where
  queues := (deposit_congr q r h.queues h.image h.control).1
  image := (deposit_image ..).trans (h.image.trans (deposit_image ..).symm)
  control := (deposit_congr q r h.queues h.image h.control).2
  ports := (deposit_ports ..).trans (h.ports.trans (deposit_ports ..).symm)

theorem queues_missed {r : UplinkResult} (round : RoundNumber) (grace : Bool) (p : Position) (s : State) :
    (missedWindow grace p.index (pooledState round p r s)).queues = (routedState round p r s).queues := by
  rcases missed_cases round grace p r s with ⟨-, missed, heq⟩ | ⟨-, heq⟩
  · rw [heq]
    exact queues_pooledState ..
  · obtain ⟨hframe, -⟩ := departEntry_spec p.index
      ((pooledState round p r s).setEntry p.index (chargedTo ((pooledState round p r s).entry p.index)))
    rw [heq, hframe]
    exact queues_pooledState ..

section
variable (hsent : p.sent = .pattern v) (hsurvey : (s.entry p.index).survey = true)
include hsent hsurvey

theorem routedState_missed_reports {r : UplinkResult} (hm : Missed p r) (round : RoundNumber) :
    (routedState round p r s).queues = (reported s round p v [] 0 0 s).queues := by
  have hcounted := (survey_countedState p r s).trans hsurvey
  rw [routedState, stageRoute_missed (classify_missed hm _), surveyReport_reported (s := s) (t := countedState p r s) rfl hsent hcounted]
  exact (reported_congr (sameRouting_countedState ..) s round p v [] 0 0).1

theorem routedState_idle_reports (h : p.Hears bytes b) (hno : ¬ (s.entry p.index).Accepts b) (round : RoundNumber) (m c : Nat) :
    (routedState round p (.passed m c bytes) s).queues = (reported s round p v [] (min m 63) (min c 15) s).queues := by
  have hcounted := (survey_countedState p (.passed m c bytes) s).trans hsurvey
  have hfigures : resultFigures (.passed m c bytes) = (min m 63, min c 15) := rfl
  rw [routedState, stageRoute_heard (classify_not_accepts h hno) (heard_classify h _ m c), hfigures,
    surveyReport_reported (s := s) (t := countedState p _ s) rfl hsent hcounted]
  exact (reported_congr (sameRouting_countedState ..) s round p v [] (min m 63) (min c 15)).1

theorem routedState_echo_reports (h : p.Hears bytes b) (ha : (s.entry p.index).Accepts b) (hecho : b.kind = 63)
    (round : RoundNumber) (m c : Nat) :
    (routedState round p (.passed m c bytes) s).queues = (reported s round p v b.payload (min m 63) (min c 15) s).queues ∧
    (routedState round p (.passed m c bytes) s).control = (reported s round p v b.payload (min m 63) (min c 15) s).control := by
  have hkept := (survey_keptState p (.passed m c bytes) b s).trans hsurvey
  rw [routedState_echo h ha hecho hsurvey, surveyReport_reported (s := s) (t := keptState p _ b s) rfl hsent hkept]
  exact reported_congr (sameRouting_keptState ..) s round p v b.payload (min m 63) (min c 15)

theorem routedState_record_reports (h : p.Hears bytes b) (ha : (s.entry p.index).Accepts b) (hkind : b.kind ≠ 63)
    (round : RoundNumber) (m c : Nat) :
    let f := (min m 63, min c 15)
    routedState round p (.passed m c bytes) s =
      reported s round p v [] (min m 63) (min c 15) (routeBurst round p b f (keptState p (.passed m c bytes) b s)) := by
  intro f
  have hkept := (survey_routeBurst round p b f p.index (keptState p (.passed m c bytes) b s)).trans
    ((survey_keptState p (.passed m c bytes) b s).trans hsurvey)
  have himage : (routeBurst round p b f (keptState p (.passed m c bytes) b s)).image = s.image := by
    rw [(touches_routeBurst (i := p.index) round p b f (keptState p (.passed m c bytes) b s)).beside]
    rfl
  rw [routedState_record h ha (.inl hkind), surveyReport_reported himage hsent hkept]

theorem routedState_queue_reports (h : p.Hears bytes b) (ha : (s.entry p.index).Accepts b) (hkind : b.kind ≠ 63) {q : Fin 4}
    (hq : GoesTo s b q) (round : RoundNumber) (m c : Nat) : (routedState round p (.passed m c bytes) s).queues =
      (reported s round p v [] (min m 63) (min c 15) (deposit q (s.recordOf round p b m c) s)).queues := by
  have hsame := sameRouting_keptState p (.passed m c bytes) b s
  have hrouted := routeBurst_deposits (hsame.goesTo hq) round p (min m 63, min c 15)
  rw [routedState_record_reports hsent hsurvey h ha hkind, hrouted]
  exact (reported_congr (sameRouting_deposit hsame q (s.recordOf round p b m c)) s round p v [] (min m 63) (min c 15)).1

theorem routedState_rest_reports (h : p.Hears bytes b) (ha : (s.entry p.index).Accepts b) (hkind : b.kind ≠ 63)
    (hrest : s.routeOf b = .discard ∨ (s.routeOf b = .passAlong ∧ s.portalPort ≠ none)) (round : RoundNumber) (m c : Nat) :
    (routedState round p (.passed m c bytes) s).queues = (reported s round p v [] (min m 63) (min c 15) s).queues := by
  have hsame := sameRouting_keptState p (.passed m c bytes) b s
  rw [routedState_record_reports hsent hsurvey h ha hkind]
  rcases hrest with hdiscard | ⟨hpass, hport⟩
  · rw [routeBurst_discards ((hsame.route b).trans hdiscard)]
    exact (reported_congr hsame s round p v [] (min m 63) (min c 15)).1
  · obtain ⟨port, hport⟩ := Option.ne_none_iff_exists'.mp hport
    rw [routeBurst_passes ((hsame.route b).trans hpass) (hsame.portal.trans hport)]
    obtain ⟨ps, hports⟩ := updatePort_eq (keptState p (.passed m c bytes) b s) port (Port.submitPass
      { src := (keptState p (.passed m c bytes) b s).image.node.node, dst := 0, hop := 0
        body := .pass (burstPass (keptState p (.passed m c bytes) b s).image.node.node round b (min m 63, min c 15)) })
    rw [sendPass, hports]
    unfold reported
    refine (deposit_congr _ _ ?_ ?_ ?_).1
    · exact hsame.queues
    · exact hsame.image
    · exact hsame.control

end

end

/-- Settles O42: the report is deposited by stage 2, after the record of a burst that is no echo. -/
theorem surveyWindowReported : Obligations.SurveyWindowReported := by
  intro ago n p v s hdue hlive hsent hsurvey e round report
  have hshut := sameRouting_shutWindow ago n s
  have hbase : reported (shutWindow ago n s) = reported s := reported_of_image hshut.image
  have hreport (echo : List Byte) (m c : Nat) := reported_congr hshut s round p v echo m c
  refine ⟨fun r hmissed => ?_, fun m c bytes b h => ⟨_, exec_heard hdue h m c, fun hno => ?_, fun ha hecho => ?_,
    fun ha hkind => ⟨fun q hq => ?_, fun hrest => ?_⟩⟩⟩
  · have hrouted := routedState_missed_reports (s := shutWindow ago n s) hsent hsurvey hmissed round
    rw [hbase] at hrouted
    exact ⟨_, exec_missed hdue hlive hmissed, (queues_missed ..).trans (hrouted.trans (hreport [] 0 0).1)⟩
  · have hrouted := routedState_idle_reports (s := shutWindow ago n s) hsent hsurvey h hno round m c
    rw [hbase] at hrouted
    exact (queues_heard ..).trans (hrouted.trans (hreport [] _ _).1)
  · obtain ⟨hqueues, hcontrol⟩ := routedState_echo_reports (s := shutWindow ago n s) hsent hsurvey h ha hecho round m c
    rw [hbase] at hqueues hcontrol
    refine ⟨(queues_heard ..).trans (hqueues.trans (hreport b.payload _ _).1), fun hoff => ?_⟩
    obtain ⟨hj, hne, hactive⟩ := offeringOrMoving (e := (shutWindow ago n s).entry p.index) (.inl hoff)
    rw [(heard_other hj hne hactive _ _).1, control_pooledState_quiet h hactive (by rw [hsent]; exact nofun)]
    exact hcontrol.trans (hreport b.payload _ _).2
  · have hrouted := routedState_queue_reports (s := shutWindow ago n s) hsent hsurvey h ha hkind hq round m c
    rw [hbase] at hrouted
    exact (queues_heard ..).trans (hrouted.trans
      (reported_congr (sameRouting_deposit hshut q (s.recordOf round p b m c)) s round p v [] _ _).1)
  · have hrouted := routedState_rest_reports (s := shutWindow ago n s) hsent hsurvey h ha hkind hrest round m c
    rw [hbase] at hrouted
    exact (queues_heard ..).trans (hrouted.trans (hreport [] _ _).1)

end Sys2Proof.Proofs
end

section
/-!
PROOFS. The command of a slot acknowledged, or its send failed (R94 to R96, R45, R100).
-/
namespace Sys2Proof.Proofs
open Sys2Proof.Machine

section
variable {s : State} {p : Position} {k : Command} {r : UplinkResult} {b : Burst} {round : RoundNumber} {grace : Bool} {i : Index}
  {bytes : List Byte}

/-! ### The list before the pool reads it -/

/-- The first three stages leave the commands of the entry, its pace count and its car. -/
theorem pool_assessedState (round : RoundNumber) (p : Position) (r : UplinkResult) (s : State) :
    ((assessedState round p r s).entry p.index).commands = (s.entry p.index).commands ∧
    ((assessedState round p r s).entry p.index).pace = (s.entry p.index).pace ∧
    ((assessedState round p r s).entry p.index).car = (s.entry p.index).car := by
  obtain ⟨hrouted, ⟨hassessed, -, -⟩, -⟩ := staged round p r s
  rw [hassessed, hrouted]
  exact ⟨rfl, rfl, rfl⟩

theorem live_assessedState (round : RoundNumber) (p : Position) (r : UplinkResult) (s : State) :
    (assessedState round p r s).live = s.live := by
  rw [(touches_assessedState round p r s).beside]

/-- A slot that carried no command of the list leaves it. -/
theorem pool_rests (h : ∀ c ∈ (s.entry p.index).commands, p.sent ≠ .command c.number) (round : RoundNumber) (r : UplinkResult) :
    ((pooledState round p r s).entry p.index).commands = (s.entry p.index).commands ∧
    ((pooledState round p r s).entry p.index).pace = (s.entry p.index).pace := by
  obtain ⟨hcommands, hpace, -⟩ := pool_assessedState round p r s
  rw [pooledState, stagePool_rests (by rw [hcommands]; exact h)]
  exact ⟨hcommands, hpace⟩

/-! ### The command delivered, sent again or given up -/

/-- A list of commands after one more attempt of one (R95). -/
def triedAgain (k : Command) (e : Entry) : List Command :=
  e.commands.map fun c => if c.number = k.number then { c with attempts := c.attempts + 1 } else c

section
variable (hsent : p.sent = .command k.number) (hk : k ∈ (s.entry p.index).commands)
  (hone : ∀ c ∈ (s.entry p.index).commands, c.number = k.number → c = k)
include hsent hk hone

/-- The acknowledgement in the heard burst (R94). -/
theorem pooledState_delivers (hack : ((classify p (s.entry p.index) r).heard.bind Burst.ack).isSome = true)
    (hseq : (classify p (s.entry p.index) r).heard.bind Burst.ack = k.seqUsed) (round : RoundNumber) :
    ((pooledState round p r s).entry p.index).commands = otherCommands k (s.entry p.index) ∧
    ((pooledState round p r s).entry p.index).pace = s.live.downlink.pacing ∧
    (pooledState round p r s).control =
      (if k.notify then (assessedState round p r s).control.post (.delivered k.number (s.entry p.index).car (k.attempts + 1))
      else (assessedState round p r s).control) := by
  obtain ⟨hcommands, hpace, hcar⟩ := pool_assessedState round p r s
  have hlive := live_assessedState round p r s
  rw [pooledState, stagePool_delivers (s := assessedState round p r s) hsent (by rw [hcommands]; exact hk) (by rw [hcommands]; exact hone)
    hack hseq, entry_notifyAll, entry_setEntry_self, hcar, hlive]
  refine ⟨congrArg _ hcommands, rfl, ?_⟩
  split <;> rfl

section
variable (hack : ((classify p (s.entry p.index) r).heard.bind Burst.ack).isSome = false ∨
  (classify p (s.entry p.index) r).heard.bind Burst.ack ≠ k.seqUsed)
include hack

theorem pooledState_fails (round : RoundNumber) : pooledState round p r s = failSend p.index k (assessedState round p r s) := by
  obtain ⟨hcommands, -, -⟩ := pool_assessedState round p r s
  exact stagePool_fails (s := assessedState round p r s) hsent (by rw [hcommands]; exact hk) (by rw [hcommands]; exact hone) hack

/-- A failed send below the retry limit (R95). -/
theorem pooledState_again (hlimit : k.attempts + 1 < s.live.downlink.retryLimit) (round : RoundNumber) :
    ((pooledState round p r s).entry p.index).commands = triedAgain k (s.entry p.index) ∧
    ((pooledState round p r s).entry p.index).pace = (s.entry p.index).pace ∧
    (pooledState round p r s).control = (assessedState round p r s).control := by
  obtain ⟨hcommands, hpace, -⟩ := pool_assessedState round p r s
  rw [pooledState_fails hsent hk hone hack, failSend_again (by rw [live_assessedState]; exact hlimit), entry_setEntry_self]
  exact ⟨congrArg _ hcommands, hpace, rfl⟩

/-- A failed send at the retry limit (R95, R96). -/
theorem pooledState_ends (hlimit : s.live.downlink.retryLimit ≤ k.attempts + 1) (round : RoundNumber) :
    ((pooledState round p r s).entry p.index).commands = otherCommands k (s.entry p.index) ∧
    ((pooledState round p r s).entry p.index).pace = s.live.downlink.pacing ∧
    (pooledState round p r s).control =
      (assessedState round p r s).control.post (.undelivered k.number (s.entry p.index).car .noAck k.sent) := by
  obtain ⟨hcommands, -, hcar⟩ := pool_assessedState round p r s
  rw [pooledState_fails hsent hk hone hack, failSend_ends (by rw [live_assessedState]; exact hlimit), entry_notify, entry_setEntry_self,
    live_assessedState, hcar]
  exact ⟨congrArg _ hcommands, rfl, rfl⟩

end

end

/-! ### What stage 5 leaves of the list -/

theorem heardTo_pool (round : RoundNumber) (e : Entry) : (heardTo round e).commands = e.commands ∧ (heardTo round e).pace = e.pace := by
  unfold heardTo
  repeat' split
  all_goals exact ⟨rfl, rfl⟩

theorem pool_heard (round : RoundNumber) (p : Position) (r : UplinkResult) (s : State) :
    ((heardWindow round p.index (pooledState round p r s)).entry p.index).commands = ((pooledState round p r s).entry p.index).commands ∧
    ((heardWindow round p.index (pooledState round p r s)).entry p.index).pace = ((pooledState round p r s).entry p.index).pace := by
  rw [(heardWindow_spec ..).2.1]
  exact heardTo_pool ..

/-- A heard burst without payload and report, of an ACTIVE entry, sends nothing but what the pool sends (R72). -/
theorem control_heard_active (h : p.Hears bytes b) (hactive : (s.entry p.index).state = .active) (hpattern : ∀ v, p.sent ≠ .pattern v)
    (hlength : b.length = 0) (hno : b.nbrValid = false) (round : RoundNumber) (m c : Nat) :
    (heardWindow round p.index (pooledState round p (.passed m c bytes) s)).control = (pooledState round p (.passed m c bytes) s).control ∧
    (assessedState round p (.passed m c bytes) s).control = s.control := by
  have hstate := (staged round p (.passed m c bytes) s).kept.active hactive
  refine ⟨?_, ?_⟩
  · rw [heardWindow_other (by rcases hstate with h | h <;> rw [h] <;> decide) (by rcases hstate with h | h <;> rw [h] <;> decide)]
    rfl
  · rw [assessedState_quiet h (.inr hno), routedState_quiet h (fun ha => ha.carries.1 hlength) (.inl hpattern)]
    rfl

/-- The miss limit's notices, by the commands that the pool has left (R45, R100). -/
theorem control_departEntry_missed (h : Missed p r) (round : RoundNumber) (s : State) :
    let w := pooledState round p r s
    let e := s.entry p.index
    (departEntry p.index (w.setEntry p.index (chargedTo (w.entry p.index)))).control =
      (notifyAll (.departed e.car p.index e.departReason e.lastHeard ::
        (w.entry p.index).commands.map fun c => .undelivered c.number e.car .departed c.sent) w).control := by
  intro w e
  obtain ⟨-, -, -, -, -, hcontrol⟩ := departEntry_spec p.index (w.setEntry p.index (chargedTo (w.entry p.index)))
  have hentry := entry_pooledState_missed h round s
  obtain ⟨hstate, hcar, -, hheard, -, hlast, -, -⟩ := missedTo_kept s.live.link e
  rw [entry_setEntry_self] at hcontrol
  refine hcontrol.trans ((control_notifyAll_congr _ (setEntry_control w p.index _)).trans ?_)
  have hx : w.entry p.index = _ := hentry
  generalize w.entry p.index = x at hx ⊢
  have hxstate : (chargedTo x).state = e.state := by rw [hx]; exact hstate
  have hxcar : (chargedTo x).car = e.car := by rw [hx]; exact hcar
  have hxheard : (chargedTo x).heard = e.heard := by rw [hx]; exact hheard
  have hxlast : (chargedTo x).lastHeard = e.lastHeard := by rw [hx]; exact hlast
  rw [Entry.departReason, Entry.undelivered, hxstate, hxheard, hxlast, hxcar]
  rfl

/-- One more attempt does not show in the notices of a command that goes with its entry (R100). -/
theorem undelivered_triedAgain (k : Command) (e : Entry) (car : CarNumber) :
    (triedAgain k e).map (fun c => Notice.undelivered c.number car .departed c.sent) =
      e.commands.map fun c => Notice.undelivered c.number car .departed c.sent := by
  rw [triedAgain, List.map_map]
  refine List.map_congr_left fun c _ => ?_
  simp only [Function.comp]
  split <;> rfl

theorem ack_valid {b : Burst} (h : b.dlAckValid = true) : b.ack = some b.dlAck := if_pos h

/-- A burst that does not acknowledge the command (R94). -/
theorem ack_not {b : Burst} (h : b.dlAckValid = false ∨ k.seqUsed ≠ some b.dlAck) : b.ack.isSome = false ∨ b.ack ≠ k.seqUsed := by
  cases hvalid : b.dlAckValid with
  | false => exact .inl (by rw [Burst.ack, hvalid]; rfl)
  | true =>
    rw [ack_valid hvalid]
    exact .inr (h.resolve_left (by rw [hvalid]; decide)).symm

end

/-- Settles O44: the first three stages leave the list, the fourth reads the acknowledgement, the fifth frees what has reached its limit. -/
theorem commandAcknowledged : Obligations.CommandAcknowledged := by
  refine ⟨?_, ?_⟩
  · intro ago n p r s hdue hlive e hrest hor
    have hpool := pool_rests (s := shutWindow ago n s) hrest (s.engine.planOf ago).round r
    cases hheard : (classify p ((shutWindow ago n s).entry p.index) r).heard with
    | some b =>
      refine ⟨_, (exec_uplinkWindowClose hdue r).trans (congrArg _ (closeWindow_heard hlive hheard)), ?_⟩
      obtain ⟨hcommands, hpace⟩ := pool_heard (s.engine.planOf ago).round p r (shutWindow ago n s)
      exact ⟨hcommands.trans hpool.1, hpace.trans hpool.2⟩
    | none =>
      refine ⟨_, (exec_uplinkWindowClose hdue r).trans (congrArg _ (closeWindow_missed hlive hheard)), ?_⟩
      have hnot := hor.resolve_left fun ⟨m, c, bytes, b, hr, h⟩ => by
        rw [hr, heard_classify h] at hheard
        cases hheard
      rcases missed_cases (s.engine.planOf ago).round (s.engine.planOf ago).grace p r (shutWindow ago n s) with ⟨-, missed, heq⟩ | ⟨hleaves, -⟩
      · rw [heq, entry_setEntry_self]
        exact hpool
      · exact absurd hleaves hnot
  intro ago n p k s hdue hlive hsent e hk hone others leaves
  refine ⟨?_, ?_, ?_⟩
  · intro m c bytes b h hvalid hseq
    have hheard := heard_classify h ((shutWindow ago n s).entry p.index) m c
    have hack : (classify p ((shutWindow ago n s).entry p.index) (.passed m c bytes)).heard.bind Burst.ack = some b.dlAck := by
      rw [hheard]
      exact ack_valid hvalid
    obtain ⟨hcommands, hpace, hcontrol⟩ := pooledState_delivers (s := shutWindow ago n s) hsent hk hone (by rw [hack]; rfl)
      (hack.trans hseq.symm) (s.engine.planOf ago).round
    obtain ⟨hcommands', hpace'⟩ := pool_heard (s.engine.planOf ago).round p (.passed m c bytes) (shutWindow ago n s)
    refine ⟨_, exec_heard hdue h m c, hcommands'.trans hcommands, hpace'.trans hpace, fun hactive hlength _ hno => ?_⟩
    obtain ⟨hlast, hbefore⟩ := control_heard_active (s := shutWindow ago n s) h hactive (fun v => by rw [hsent]; exact nofun) hlength hno
      (s.engine.planOf ago).round m c
    rw [hlast, hcontrol, hbefore]
    rfl
  · intro m c bytes b h hno
    have hack : ((classify p ((shutWindow ago n s).entry p.index) (.passed m c bytes)).heard.bind Burst.ack).isSome = false ∨
        (classify p ((shutWindow ago n s).entry p.index) (.passed m c bytes)).heard.bind Burst.ack ≠ k.seqUsed := by
      rw [heard_classify h]
      exact ack_not hno
    obtain ⟨hcommands', hpace'⟩ := pool_heard (s.engine.planOf ago).round p (.passed m c bytes) (shutWindow ago n s)
    refine ⟨_, exec_heard hdue h m c, fun hlimit => ?_, fun hlimit => ?_⟩
    · obtain ⟨hcommands, hpace, -⟩ := pooledState_again (s := shutWindow ago n s) hsent hk hone hack hlimit (s.engine.planOf ago).round
      exact ⟨hcommands'.trans hcommands, hpace'.trans hpace⟩
    · obtain ⟨hcommands, hpace, hcontrol⟩ := pooledState_ends (s := shutWindow ago n s) hsent hk hone hack hlimit (s.engine.planOf ago).round
      refine ⟨hcommands'.trans hcommands, hpace'.trans hpace, fun hactive hlength _ hno => ?_⟩
      obtain ⟨hlast, hbefore⟩ := control_heard_active (s := shutWindow ago n s) h hactive (fun v => by rw [hsent]; exact nofun) hlength hno
        (s.engine.planOf ago).round m c
      rw [hlast, hcontrol, hbefore]
      rfl
  · intro r hmissed
    have hm : Missed p r := hmissed
    have hack : ((classify p ((shutWindow ago n s).entry p.index) r).heard.bind Burst.ack).isSome = false ∨
        (classify p ((shutWindow ago n s).entry p.index) r).heard.bind Burst.ack ≠ k.seqUsed := by
      rw [classify_missed hm]
      exact .inl rfl
    have hbefore := control_assessedState_missed (s := shutWindow ago n s) hm (.inl fun v => by rw [hsent]; exact nofun)
      (s.engine.planOf ago).round
    have hagain (hlimit) := pooledState_again (s := shutWindow ago n s) hsent hk hone hack hlimit (s.engine.planOf ago).round
    have hends (hlimit) := pooledState_ends (s := shutWindow ago n s) hsent hk hone hack hlimit (s.engine.planOf ago).round
    refine ⟨_, exec_missed hdue hlive hm, ?_⟩
    rcases missed_cases (s.engine.planOf ago).round (s.engine.planOf ago).grace p r (shutWindow ago n s) with ⟨hnot, missed, heq⟩ | ⟨hleaves, heq⟩
    · rw [heq, entry_setEntry_self]
      refine ⟨fun _ => ⟨fun hlimit => ?_, fun hlimit => ?_⟩, fun hleaves => absurd hleaves hnot⟩
      · obtain ⟨hcommands, hpace, hcontrol⟩ := hagain hlimit
        exact ⟨hcommands, hpace, hcontrol.trans hbefore⟩
      · obtain ⟨hcommands, hpace, hcontrol⟩ := hends hlimit
        exact ⟨hcommands, hpace, hcontrol.trans (congrArg _ hbefore)⟩
    · rw [heq]
      refine ⟨fun hnot => absurd hleaves hnot, fun _ => ⟨?_, fun given up hgiven hup => ?_⟩⟩
      · exact (departEntry_spec ..).2.1
      · refine (control_departEntry_missed hm (s.engine.planOf ago).round (shutWindow ago n s)).trans ?_
        rw [notifyAll_append, hgiven, hup]
        by_cases hlimit : s.live.downlink.retryLimit ≤ k.attempts + 1
        · obtain ⟨hcommands, -, hcontrol⟩ := hends hlimit
          rw [hcommands, if_pos hlimit, if_pos hlimit]
          exact control_notifyAll_congr _ (hcontrol.trans (congrArg _ hbefore))
        · obtain ⟨hcommands, -, hcontrol⟩ := hagain (Nat.not_le.mp hlimit)
          rw [hcommands, if_neg hlimit, if_neg hlimit, undelivered_triedAgain]
          exact control_notifyAll_congr _ (hcontrol.trans hbefore)

end Sys2Proof.Proofs
end

section
/-!
PROOFS. The windows of an abandoned round settled, and what a claim leads to (R23, R139 to R144).
-/
namespace Sys2Proof.Proofs
open Sys2Proof.Machine

section
variable {s u : State} {m : Moment} {k : Nat}

/-! ### A place of a list changed -/

theorem modify_congr {α : Type} {l : List α} {k : Nat} {f g : α → α} (h : ∀ a, l[k]? = some a → f a = g a) : l.modify k f = l.modify k g := by
  refine List.ext_getElem? fun j => ?_
  rw [List.getElem?_modify, List.getElem?_modify]
  by_cases hj : k = j
  · subst hj
    cases hx : l[k]? with
    | none => rfl
    | some a => simp [h a hx]
  · simp [hj]

theorem modify_eq_self {α : Type} {l : List α} {k : Nat} {f : α → α} (h : ∀ a, l[k]? = some a → f a = a) : l.modify k f = l :=
  (modify_congr (g := id) h).trans (List.modify_id k l)

/-! ### One window (R142) -/

/-- A window after the claim: closed, but for one in which a burst has begun. -/
def settledPosition (m : Moment) (k : Nat) (p : Position) : Position :=
  { p with closed := p.closed || !decide (p.opensAt ≤ m.offset ∧ ∃ j ∈ m.bursts, j.val = k) }

/-- Whether a window, open and without a burst, tells the survey of a surveyed car that no echo came. -/
def silentWindow (m : Moment) (s : State) (k : Nat) (p : Position) : Bool :=
  decide (p.closed = false ∧ p.stale = false ∧ p.opensAt ≤ m.offset ∧ (∀ j ∈ m.bursts, j.val ≠ k) ∧ (s.entry p.index).survey = true)

/-- The report of no echo, where the slot carried a pattern. -/
def noEchoReport (s : State) (p : Position) : Option Record :=
  match p.sent with
  | .pattern v => some (s.surveyReportOf s.engine.plan.round p v [] 0 0)
  | _ => none

/-- The report that settling a window makes. -/
def windowReport (m : Moment) (s : State) (k : Nat) : Option Record :=
  ((s.engine.plan.positions[k]?).filter (silentWindow m s k)).bind (noEchoReport s)

theorem windowReport_some {p : Position} (h : s.engine.plan.positions[k]? = some p) :
    windowReport m s k = if silentWindow m s k p then noEchoReport s p else none := by
  rw [windowReport, h, Option.filter_some]
  split <;> rfl

theorem windowReport_none (h : s.engine.plan.positions[k]? = none) : windowReport m s k = none := by
  rw [windowReport, h]
  rfl

/-- Records deposited one after the other. -/
def depositAll (q : Fin 4) (rs : List Record) (s : State) : State := rs.foldl (fun u r => deposit q r u) s

/-- The survey generator told of a window without an echo, by the car's mark and what its slot carried. -/
theorem surveyNoEcho_eq {p : Position} (himage : u.image = s.image) (hroster : u.roster = s.roster) :
    surveyNoEcho s.engine.plan.round p 0 0 u = depositAll s.image.queues.survey
      (if (s.entry p.index).survey then (noEchoReport s p).toList else []) u := by
  have hsurvey : (u.entry p.index).survey = (s.entry p.index).survey := congrArg Entry.survey (entry_congr hroster p.index)
  cases hmark : (s.entry p.index).survey with
  | false => exact surveyReport_rests (.inr (hsurvey.trans hmark)) _ _ _
  | true =>
    rw [if_pos rfl]
    cases hsent : p.sent with
    | pattern v =>
      have hreport : noEchoReport s p = some (s.surveyReportOf s.engine.plan.round p v [] 0 0) := by rw [noEchoReport, hsent]
      rw [hreport]
      exact surveyReport_reported himage hsent (hsurvey.trans hmark) _ _ _ _
    | _ =>
      have hreport : noEchoReport s p = none := by rw [noEchoReport, hsent]
      rw [hreport]
      exact surveyReport_rests (.inl (by rw [hsent]; exact nofun)) _ _ _

theorem silentWindow_eq_false {p : Position} (h : silentWindow m s k p = false) (hopen : p.closed = false)
    (hburst : ¬ (p.opensAt ≤ m.offset ∧ ∃ j ∈ m.bursts, j.val = k)) :
    ¬ (p.opensAt ≤ m.offset ∧ p.stale = false) ∨ (s.entry p.index).survey = false := by
  by_cases hsurvey : (s.entry p.index).survey = true
  · refine .inl fun ⟨hle, hlive⟩ => ?_
    have hno : ∀ j ∈ m.bursts, j.val ≠ k := fun j hj heq => hburst ⟨hle, j, hj, heq⟩
    rw [silentWindow, decide_eq_true ⟨hopen, hlive, hle, hno, hsurvey⟩] at h
    cases h
  · exact .inr (by simpa using hsurvey)

theorem settleWindow_eq (m : Moment) (k : Nat) (s : State) : settleWindow m k s =
    depositAll s.image.queues.survey (windowReport m s k).toList
      (s.withPlan (s.engine.plan.updateAt k (settledPosition m k))) := by
  have hrests (hsame : ∀ p, s.engine.plan.positions[k]? = some p → settledPosition m k p = p) :
      s.withPlan (s.engine.plan.updateAt k (settledPosition m k)) = s := by
    rw [Plan.updateAt, modify_eq_self hsame]
    rfl
  unfold settleWindow
  cases hp : s.engine.plan.positions[k]? with
  | none =>
    rw [hrests fun p h => (Option.some_ne_none p (h.symm.trans hp)).elim, windowReport_none hp]
    rfl
  | some p =>
    rw [windowReport_some hp]
    have hmod (hsame : settledPosition m k p = p) := hrests fun p' h => by
      rw [hp] at h
      obtain rfl : p = p' := Option.some.inj h
      exact hsame
    by_cases hclosed : p.closed = true
    · have hsilent : silentWindow m s k p = false := decide_eq_false fun h => by rw [hclosed] at h; cases h.1
      rw [hmod (by rw [settledPosition, hclosed, Bool.true_or, ← hclosed])]
      simp [hclosed, hsilent, depositAll]
    have hopen : p.closed = false := by simpa using hclosed
    by_cases hburst : p.opensAt ≤ m.offset ∧ ∃ j ∈ m.bursts, j.val = k
    · have hsilent : silentWindow m s k p = false := decide_eq_false fun h => by
        obtain ⟨-, j, hj, heq⟩ := hburst
        exact h.2.2.2.1 j hj heq
      rw [hmod (by rw [settledPosition, decide_eq_true hburst, hopen]; exact congrArg (fun c => { p with closed := c }) hopen.symm)]
      simp [hopen, hsilent, depositAll, hburst]
    · have hclose : s.engine.plan.updateAt k (fun q => { q with closed := true }) = s.engine.plan.updateAt k (settledPosition m k) := by
        unfold Plan.updateAt
        rw [modify_congr fun p' h => ?_]
        rw [hp] at h
        obtain rfl : p = p' := Option.some.inj h
        rw [settledPosition, decide_eq_false hburst, Bool.not_false, Bool.or_true]
      have hany : ¬ (p.opensAt ≤ m.offset ∧ (m.bursts.any fun j => j.val == k) = true) := by simpa using hburst
      simp only [hopen, Bool.false_eq_true, if_false, if_neg hany, hclose]
      have hecho := surveyNoEcho_eq (s := s) (u := s.withPlan (s.engine.plan.updateAt k (settledPosition m k))) (p := p) rfl rfl
      cases hsilent : silentWindow m s k p with
      | true =>
        obtain ⟨-, hlive, hle, -, hsurvey⟩ := of_decide_eq_true hsilent
        rw [hsurvey] at hecho
        exact (if_pos ⟨hle, hlive⟩).trans hecho
      | false =>
        rcases silentWindow_eq_false hsilent hopen hburst with hnot | hsurvey
        · exact if_neg hnot
        · rw [hsurvey] at hecho
          split
          · exact hecho
          · rfl

/-! ### All the windows -/

theorem deposit_engine_update (q : Fin 4) (r : Record) (e : Engine) (s : State) :
    deposit q r { s with engine := e } = { deposit q r s with engine := e } := by
  obtain ⟨hqueues, hcontrol⟩ := deposit_congr (s := s) (t := { s with engine := e }) q r rfl rfl rfl
  obtain ⟨qs, l, h⟩ := deposit_eq q r { s with engine := e }
  obtain ⟨qs', l', h'⟩ := deposit_eq q r s
  rw [h, h'] at hqueues hcontrol
  obtain rfl : qs = qs' := hqueues
  obtain rfl : l = l' := hcontrol
  rw [h, h']

theorem depositAll_engine_update (q : Fin 4) (rs : List Record) (e : Engine) (s : State) :
    depositAll q rs { s with engine := e } = { depositAll q rs s with engine := e } := by
  induction rs generalizing s with
  | nil => rfl
  | cons r rs ih => exact (congrArg (depositAll q rs) (deposit_engine_update q r e s)).trans (ih _)

theorem depositAll_append (q : Fin 4) (rs rs' : List Record) (s : State) :
    depositAll q (rs ++ rs') s = depositAll q rs' (depositAll q rs s) := List.foldl_append

/-- Arrivals touch the queues and the control link. -/
theorem depositAll_eq (q : Fin 4) (rs : List Record) (s : State) : ∃ qs l, depositAll q rs s = { s with queues := qs, control := l } := by
  induction rs generalizing s with
  | nil => exact ⟨_, _, rfl⟩
  | cons r rs ih =>
    obtain ⟨qs, l, h⟩ := deposit_eq q r s
    obtain ⟨qs', l', h'⟩ := ih (deposit q r s)
    exact ⟨qs', l', h'.trans (by rw [h])⟩

theorem depositAll_congr (q : Fin 4) (rs : List Record) {s t : State} (h : SameRouting s t) : SameRouting (depositAll q rs s) (depositAll q rs t) := by
  induction rs generalizing s t with
  | nil => exact h
  | cons r rs ih => exact ih (sameRouting_deposit h q r)

/-- The places of a plan below one, settled. -/
def settledTo (m : Moment) (k : Nat) (p : Plan) : Plan :=
  { p with positions := p.positions.mapIdx fun j x => if j < k then settledPosition m j x else x }

theorem settledTo_zero (m : Moment) (p : Plan) : settledTo m 0 p = p := by
  have hmap : p.positions.mapIdx (fun j x => if j < 0 then settledPosition m j x else x) = p.positions :=
    List.ext_getElem? fun j => by simp
  rw [settledTo, hmap]

theorem settledTo_succ (m : Moment) (k : Nat) (p : Plan) : (settledTo m k p).updateAt k (settledPosition m k) = settledTo m (k + 1) p := by
  have hmap : (settledTo m k p).positions.modify k (settledPosition m k) = (settledTo m (k + 1) p).positions := by
    refine List.ext_getElem? fun j => ?_
    rw [List.getElem?_modify]
    simp only [settledTo, List.getElem?_mapIdx]
    cases p.positions[j]? with
    | none => rfl
    | some x =>
      rcases Nat.lt_trichotomy j k with h | h | h
      · simp [h, Nat.lt_succ_of_lt h, Nat.ne_of_gt h]
      · simp [h]
      · simp [Nat.not_lt.mpr (Nat.le_of_lt h), Nat.not_lt.mpr (Nat.succ_le_of_lt h), Nat.ne_of_lt h]
  rw [Plan.updateAt, hmap]
  rfl

/-- The reports that settling the places below one makes. -/
def reportsTo (m : Moment) (s : State) (k : Nat) : List Record := (List.range k).filterMap (windowReport m s)

theorem reportsTo_succ (m : Moment) (s : State) (k : Nat) : reportsTo m s (k + 1) = reportsTo m s k ++ (windowReport m s k).toList := by
  rw [reportsTo, List.range_succ, List.filterMap_append, List.filterMap_cons, List.filterMap_nil]
  cases windowReport m s k <;> rfl

/-- A place not yet settled reports in the state so far what it reports at first. -/
theorem windowReport_settledTo (m : Moment) (k : Nat) (s : State) (q : Fin 4) (rs : List Record) :
    windowReport m { depositAll q rs s with engine := { s.engine with plan := settledTo m k s.engine.plan } } k = windowReport m s k := by
  have hplace : (settledTo m k s.engine.plan).positions[k]? = s.engine.plan.positions[k]? := by
    simp only [settledTo, List.getElem?_mapIdx, Nat.lt_irrefl, if_false]
    exact Option.map_id'
  obtain ⟨qs, l, h⟩ := depositAll_eq q rs s
  rw [h, windowReport, windowReport]
  exact congrArg (fun x => Option.bind (Option.filter (silentWindow m s k) x) (noEchoReport s)) hplace

theorem foldl_settleWindow (m : Moment) (s : State) (k : Nat) : (List.range k).foldl (fun t j => settleWindow m j t) s =
    { depositAll s.image.queues.survey (reportsTo m s k) s with engine := { s.engine with plan := settledTo m k s.engine.plan } } := by
  induction k with
  | zero =>
    rw [settledTo_zero]
    rfl
  | succ k ih =>
    rw [List.range_succ, List.foldl_append, ih, List.foldl_cons, List.foldl_nil, settleWindow_eq, windowReport_settledTo, reportsTo_succ,
      depositAll_append]
    have himage : (depositAll s.image.queues.survey (reportsTo m s k) s).image = s.image := by
      obtain ⟨qs, l, h⟩ := depositAll_eq s.image.queues.survey (reportsTo m s k) s
      rw [h]
    refine (depositAll_engine_update _ _ _ (depositAll s.image.queues.survey (reportsTo m s k) s)).trans ?_
    rw [← settledTo_succ]
    exact congrArg (fun q : Fin 4 => ({ depositAll q (windowReport m s k).toList (depositAll s.image.queues.survey (reportsTo m s k) s) with
      engine := { s.engine with plan := (settledTo m k s.engine.plan).updateAt k (settledPosition m k) } } : State))
      (congrArg (fun i : Settings => i.queues.survey) himage)

/-! ### The round abandoned (R23) -/

/-- The join windows that stay open at a claim. -/
def settledJoins (m : Moment) (p : Plan) : List (Fin 4) := p.joins.filter fun j => decide (j ∈ m.joins ∧ p.joinStart + 80 * j.val ≤ m.offset)

/-- The plan of the round once its windows are settled. -/
def settledPlan (m : Moment) (p : Plan) : Plan := { settledTo m p.positions.length p with joins := settledJoins m p }

/-- The reports that an abandoned round makes. -/
def settledReports (m : Moment) (s : State) : List Record := reportsTo m s s.engine.plan.positions.length

theorem settleWindows_eq (m : Moment) (s : State) : settleWindows m s =
    { depositAll s.image.queues.survey (settledReports m s) s with
      engine := { s.engine with plan := settledPlan m s.engine.plan } } := by
  have hjoins (p : Plan) : (p.joins.filter fun j => m.joins.contains j && decide (p.joinStart + 80 * j.val ≤ m.offset)) = settledJoins m p := by
    simp [settledJoins]
  simp only [settleWindows, foldl_settleWindow, hjoins]
  rfl

/-- The engine after the round has been abandoned (R23). -/
def stateAbandoned : EngineState → EngineState
  | .stopping => .stopped
  | .stepping => .paused
  | e => e

/-- The notices of the engine then. -/
def noticesAbandoned (round : RoundNumber) : EngineState → List Notice
  | .stepping => [.roundDone round true]
  | .stopping => [.stopped round]
  | _ => []

theorem abandonRound_eq (m : Moment) (s : State) : abandonRound m s = notifyAll (noticesAbandoned s.engine.round s.engine.state)
    { depositAll s.image.queues.survey (settledReports m s) s with
      engine := { s.engine with
        plan := settledPlan m s.engine.plan, inProgress := false, state := stateAbandoned s.engine.state } } := by
  simp only [abandonRound, settleWindows_eq]
  cases hstate : s.engine.state <;> rfl

/-! ### The claim (R141) -/

theorem sending_iff (h : s.engine.inProgress = true) (offset : Nat) :
    s.sending offset = true ↔ ∃ b, s.engine.radio = some b ∧ offset < b.ends := by
  unfold State.sending
  cases hradio : s.engine.radio <;> simp [h]

/-- The quiet controller once a claim has ended a round (R141). -/
def quietAbandoned (sending : Bool) (q : Quiet) : Quiet :=
  if sending then { q with state := .draining } else { q with state := .silent, timer := 0, ack := true }

/-- The engine's part in it. -/
def engineAbandoned (m : Moment) (s : State) : Engine :=
  { s.engine with
    plan := settledPlan m s.engine.plan, inProgress := false, resumePending := true, state := stateAbandoned s.engine.state
    radio := if s.sending m.offset then s.engine.radio else none }

/-- The notices of a claim that ends a round, after those of the reports. -/
def noticesClaim (m : Moment) (s : State) : List Notice :=
  noticesAbandoned s.engine.round s.engine.state ++
    if s.sending m.offset then [] else [.quietBegin s.quiet.lineClaim s.quiet.hostClaim]

/-- QUIET_BEGIN is sent exactly when the claim leads to SILENT. -/
theorem noticesClaim_eq (m : Moment) (s : State) : noticesClaim m s = noticesAbandoned s.engine.round s.engine.state ++
    if (quietAbandoned (s.sending m.offset) s.quiet).state = .silent then [.quietBegin s.quiet.lineClaim s.quiet.hostClaim] else [] := by
  rw [noticesClaim, quietAbandoned]
  cases s.sending m.offset <;> rfl

theorem claimArrived_not (h : s.quiet.state ≠ .opened) : claimArrived m s = s := if_pos h

/-- Without a round in progress a claim leads to SILENT at once. -/
theorem claimArrived_idle (h : s.quiet.state = .opened) (hidle : s.engine.inProgress = false) :
    claimArrived m s = notify (.quietBegin s.quiet.lineClaim s.quiet.hostClaim) { s with
      engine := { s.engine with resumePending := true, radio := none }
      quiet := { s.quiet with state := .silent, timer := 0, ack := true } } := by
  have hsending : s.sending m.offset = false := by rw [State.sending, hidle, Bool.false_and]
  rw [claimArrived, if_neg (not_not.mpr h)]
  simp only [hidle, hsending, Bool.false_eq_true, if_false]
  rfl

/-- With one it abandons it. -/
theorem claimArrived_abandons (h : s.quiet.state = .opened) (hround : s.engine.inProgress = true) :
    claimArrived m s = { notifyAll (noticesClaim m s) (depositAll s.image.queues.survey (settledReports m s) s) with
      engine := engineAbandoned m s, quiet := quietAbandoned (s.sending m.offset) s.quiet } := by
  rw [claimArrived, if_neg (not_not.mpr h)]
  dsimp only
  rw [if_pos hround, abandonRound_eq, depositAll_engine_update]
  have hreports : settledReports m { s with engine := { s.engine with resumePending := true } } = settledReports m s := rfl
  obtain ⟨qs, l, hall⟩ := depositAll_eq s.image.queues.survey (settledReports m s) s
  rw [hreports, hall, noticesClaim, engineAbandoned, quietAbandoned, notifyAll_append]
  cases s.sending m.offset <;> cases s.engine.state <;> rfl

/-- The same by its parts: the queues and the control link are those of the reports and the notices. -/
theorem claimArrived_parts (h : s.quiet.state = .opened) (hround : s.engine.inProgress = true) : claimArrived m s = { s with
    queues := (depositAll s.image.queues.survey (settledReports m s) s).queues
    control := (notifyAll (noticesClaim m s) (depositAll s.image.queues.survey (settledReports m s) s)).control
    engine := engineAbandoned m s
    quiet := quietAbandoned (s.sending m.offset) s.quiet } := by
  obtain ⟨qs, l, hall⟩ := depositAll_eq s.image.queues.survey (settledReports m s) s
  rw [claimArrived_abandons h hround, hall, notifyAll_eq]

theorem settledPlan_position (m : Moment) (p : Plan) (k : Nat) :
    (settledPlan m p).positions[k]? = (p.positions[k]?).map (settledPosition m k) := by
  simp only [settledPlan, settledTo, List.getElem?_mapIdx]
  cases h : p.positions[k]? with
  | none => rfl
  | some x => rw [Option.map_some, Option.map_some, if_pos (List.getElem?_eq_some_iff.mp h).1]

/-- The quiet controller after a claim does not depend on the control link. -/
theorem quiet_claimArrived_control (h : s.quiet.state = .opened) (k : ControlLink) :
    (claimArrived m { s with control := k }).quiet = (claimArrived m s).quiet := by
  cases hround : s.engine.inProgress with
  | false => rw [claimArrived_idle h hround, claimArrived_idle (s := { s with control := k }) h hround]; rfl
  | true => rw [claimArrived_parts h hround, claimArrived_parts (s := { s with control := k }) h hround]; rfl

end

/-- Settles O54: a claim recorded; while OPEN it silences at once or abandons the round, whose windows are settled place by place. -/
theorem quietClaimSilences : Obligations.QuietClaimSilences := by
  intro m s quietBegins isOpen silentAt reports abandons
  have hreports : settledReports m s = reports := (List.filterMap_filterMap ..).symm
  have hidle (k : ControlLink) (q : Quiet) (hq : q.state = .opened) (hround : s.engine.inProgress = false) :
      claimArrived m { s with control := k, quiet := q } = quietBegins q { s with control := k } := claimArrived_idle hq hround
  have habandons (k : ControlLink) (q : Quiet) (hq : q.state = .opened) (hround : s.engine.inProgress = true) :
      abandons q { s with control := k } (claimArrived m { s with control := k, quiet := q }) := by
    have hparts := claimArrived_parts (m := m) (s := { s with control := k, quiet := q }) hq hround
    have hsame : SameRouting { s with control := k } { s with control := k, quiet := q } := ⟨rfl, rfl, rfl, rfl⟩
    have hsending := sending_iff (s := s) hround m.offset
    have hgot := depositAll_congr s.image.queues.survey reports hsame
    rw [hparts]
    refine ⟨rfl, rfl, rfl, rfl, rfl, rfl, rfl, rfl, rfl, rfl, rfl, rfl, rfl, rfl,
      fun h => congrArg stateAbandoned h, fun h => congrArg stateAbandoned h, fun h => congrArg stateAbandoned h, fun hair => ?_, fun hair => ?_,
      settledPlan_position m s.engine.plan, rfl, fun reported hreported => ?_⟩
    · have hon : s.sending m.offset = true := hsending.mpr hair
      exact ⟨congrArg (quietAbandoned · q) hon, if_pos hon⟩
    · have hoff : s.sending m.offset = false := Bool.eq_false_iff.mpr fun hon => by
        obtain ⟨b, hb, hlt⟩ := hsending.mp hon
        rcases hair with hnone | ⟨b', hb', hle⟩
        · rw [hnone] at hb; cases hb
        · rw [hb'] at hb
          cases hb
          exact absurd hlt (Nat.not_lt.mpr hle)
      exact ⟨congrArg (quietAbandoned · q) hoff, if_neg (Bool.eq_false_iff.mp hoff)⟩
    · subst hreported
      refine ⟨(congrArg (fun rs => (depositAll _ rs _).queues) hreports).trans hgot.queues, ?_⟩
      have hlink : (depositAll s.image.queues.survey (settledReports m s) { s with control := k, quiet := q }).control =
          (depositAll s.image.queues.survey reports { s with control := k }).control := by
        rw [hreports]
        exact hgot.control
      exact (congrArg (fun ns => State.control (notifyAll ns _)) (noticesClaim_eq m _)).trans (control_notifyAll_congr _ hlink)
  refine ⟨fun hs hline => (onEvent_of_quiescent _ hs).trans (congrArg _ (if_pos hline)), ?_, ?_⟩
  · intro hs hline q
    have hexec : exec (.lineClaimArrives m) s = .next (claimArrived m { s with quiet := q }) :=
      (onEvent_of_quiescent _ hs).trans (congrArg _ (if_neg (by rw [hline]; decide)))
    refine ⟨fun hstate => hexec.trans (congrArg _ (claimArrived_not hstate)), fun hopen hround => ?_, fun hopen hround => ?_⟩
    · exact hexec.trans (congrArg _ (hidle s.control q hopen hround))
    · exact ⟨_, hexec, habandons s.control q hopen hround⟩
  · intro tag value c hs
    refine ⟨fun h0 h1 => onRequest_refuse hs (if_neg (not_or.mpr ⟨h0, h1⟩)), ?_, ?_⟩
    · rintro rfl hhost
      have hsame (t : State) (ht : t.quiet = s.quiet) : setHostClaim ((1 : Byte) == 1) m t = t := setHostClaim_same (ht ▸ hhost)
      refine (exec_quiet hs (.inr rfl)).trans ?_
      rw [hsame s rfl, hsame (s.answered _ _ _) rfl]
    · rintro rfl hhost q
      have hon (t : State) (ht : t.quiet = s.quiet) : setHostClaim ((1 : Byte) == 1) m t = claimArrived m { t with quiet := q } :=
        (setHostClaim_on (ht ▸ hhost)).trans (by rw [ht])
      have hexec := exec_quiet hs (.inr rfl)
      rw [hon s rfl, hon (s.answered _ _ _) rfl] at hexec
      refine ⟨fun hstate => ?_, fun hopen hround => ?_, fun hopen hround => ?_⟩
      · rw [claimArrived_not (s := { s with quiet := q }) hstate] at hexec
        exact hexec.trans (congrArg _ (claimArrived_not hstate))
      · rw [hidle s.control q hopen hround] at hexec
        refine hexec.trans (congrArg _ ?_)
        exact hidle _ q hopen hround
      · refine ⟨_, hexec, ?_⟩
        have hquiet := quiet_claimArrived_control (m := m) (s := { s with quiet := q }) hopen
          (s.answered c .ok (claimArrived m { s with quiet := q }).quiet.replyBytes).control
        have hreply : (claimArrived m { s.answered c .ok (claimArrived m { s with quiet := q }).quiet.replyBytes with quiet := q }).quiet =
          (claimArrived m { s with quiet := q }).quiet := hquiet
        rw [hreply]
        exact habandons _ q hopen hround

end Sys2Proof.Proofs
end

section
/-!
PROOFS. Numbers as bytes, check words, and the frames of the wired lines read back (R1, R129, R162, R180).
-/
namespace Sys2Proof.Proofs
open Sys2Proof.Machine

/-! ### Numbers as bytes (R1) -/

theorem toNat_byteOf (n : Nat) : (byteOf n).toNat = n % 256 := BitVec.toNat_ofNat n 8

theorem byteOf_toNat (b : Byte) : byteOf b.toNat = b := (BitVec.ofNat_toNat 8 b).trans (BitVec.setWidth_eq b)

theorem length_leBytes (k n : Nat) : (leBytes k n).length = k := by
  induction k generalizing n with
  | zero => rfl
  | succ k ih => rw [leBytes, List.length_cons, ih]

/-- The bytes of a number stand for it, as far as they reach. -/
theorem leValue_leBytes (k n : Nat) : leValue (leBytes k n) = n % 256 ^ k := by
  induction k generalizing n with
  | zero => rw [pow_zero, Nat.mod_one]; rfl
  | succ k ih =>
    rw [leBytes, leValue, ih, toNat_byteOf, pow_succ', Nat.mod_mul]

/-- Bytes are those of the number that they stand for. -/
theorem leBytes_leValue (bs : List Byte) : leBytes bs.length (leValue bs) = bs := by
  induction bs with
  | nil => rfl
  | cons b bs ih =>
    have hlow : byteOf (b.toNat + 256 * leValue bs) = b := by
      refine BitVec.eq_of_toNat_eq ?_
      rw [toNat_byteOf]
      have := b.isLt
      omega
    have hhigh : (b.toNat + 256 * leValue bs) / 256 = leValue bs := by
      have := b.isLt
      omega
    rw [List.length_cons, leValue, leBytes, hlow, hhigh, ih]

theorem leValue_lt (bs : List Byte) : leValue bs < 256 ^ bs.length := by
  induction bs with
  | nil => exact Nat.one_pos
  | cons b bs ih =>
    rw [leValue, List.length_cons, pow_succ']
    have := b.isLt
    omega

theorem leValue_halfBytes {n : Nat} (h : n < 65536) : leValue (halfBytes n) = n := (leValue_leBytes 2 n).trans (Nat.mod_eq_of_lt h)

theorem halfBytes_leValue (a b : Byte) : halfBytes (leValue [a, b]) = [a, b] := leBytes_leValue [a, b]

theorem ofNat_leBytes (k w : Nat) (hw : 2 ^ w = 256 ^ k) (v : BitVec w) : BitVec.ofNat w (leValue (leBytes k v.toNat)) = v := by
  rw [leValue_leBytes, ← hw, Nat.mod_eq_of_lt v.isLt, BitVec.ofNat_toNat, BitVec.setWidth_eq]

/-- A car number read back (R180). -/
theorem ofNat_carBytes (c : CarNumber) : BitVec.ofNat 24 (leValue (carBytes c)) = c := ofNat_leBytes 3 24 (by decide) c

/-- A 2-byte field read back (R180). -/
theorem ofNat_halfBytes (h : Half) : BitVec.ofNat 16 (leValue (halfBytes h.toNat)) = h := ofNat_leBytes 2 16 (by decide) h

theorem carBytes_ofNat (a b c : Byte) : carBytes (BitVec.ofNat 24 (leValue [a, b, c])) = [a, b, c] := by
  have hlt : leValue [a, b, c] < 256 ^ 3 := leValue_lt [a, b, c]
  have hpow : 2 ^ 24 = 256 ^ 3 := by norm_num
  rw [carBytes, BitVec.toNat_ofNat, hpow, Nat.mod_eq_of_lt hlt]
  exact leBytes_leValue [a, b, c]

theorem halfBytes_ofNat (a b : Byte) : halfBytes (BitVec.ofNat 16 (leValue [a, b])).toNat = [a, b] := by
  have hlt : leValue [a, b] < 256 ^ 2 := leValue_lt [a, b]
  have hpow : 2 ^ 16 = 256 ^ 2 := by norm_num
  rw [BitVec.toNat_ofNat, hpow, Nat.mod_eq_of_lt hlt]
  exact halfBytes_leValue a b

/-! ### Check words (R1) -/

theorem length_withCheck (bs : List Byte) : (withCheck bs).length = bs.length + 2 := by
  rw [withCheck, List.length_append, halfBytes, length_leBytes]

theorem checkMatches_iff {bs : List Byte} : checkMatches bs = true ↔ 2 ≤ bs.length ∧ withCheck (bs.take (bs.length - 2)) = bs := by
  simp [checkMatches]

theorem checkMatches_withCheck (bs : List Byte) : checkMatches (withCheck bs) = true := by
  rw [checkMatches_iff, length_withCheck]
  refine ⟨Nat.le_add_left 2 _, ?_⟩
  have htake : (withCheck bs).take bs.length = bs := List.take_left
  rw [Nat.add_sub_cancel, htake]

/-! ### Request bodies (R180) -/

theorem drop_counted (p rest : List Byte) (h : p.length ≤ 255) : (p ++ rest).drop (byteOf p.length).toNat = rest := by
  rw [toNat_byteOf, Nat.mod_eq_of_lt (Nat.lt_succ_of_le h), List.drop_left]

theorem take_counted (p rest : List Byte) (h : p.length ≤ 255) : (p ++ rest).take (byteOf p.length).toNat = p := by
  rw [toNat_byteOf, Nat.mod_eq_of_lt (Nat.lt_succ_of_le h), List.take_left]

/-- Every request row is what its body reads as. -/
theorem readRequest_of_requestOf {c : Instr} {r : Request} (h : requestOf c = some r) (hfits : bodyFits c) :
    readRequest (momentOf c) r.kind r.tag r.body = some c := by
  cases c with
  | status | restart | get | save | start | stop | stepRound | plan | roster | take | peek | flush | quiet | counts | clearCounts =>
    cases h
    rfl
  | set t g fs =>
    cases h
    cases hg : Group.ofCode g.toNat with
    | none => simp [readRequest, hg]
    | some grp => simp [readRequest, hg, hfits grp hg]
  | admitCar t c => 
    cases h
    exact congrArg (fun c => some (Instr.admitCar t c)) (ofNat_carBytes c)
  | deny t c b =>
    cases h
    exact congrArg some (congrArg₂ (Instr.deny t) (ofNat_carBytes c) (ofNat_halfBytes b))
  | evict t c b =>
    cases h
    exact congrArg some (congrArg₂ (Instr.evict t) (ofNat_carBytes c) (ofNat_halfBytes b))
  | setOrder t l =>
    cases h
    exact if_pos ((toNat_byteOf l.length).trans (Nat.mod_eq_of_lt (Nat.lt_succ_of_le hfits))).symm
  | survey t c v =>
    cases h
    exact congrArg (fun c => some (Instr.survey t c v)) (ofNat_carBytes c)
  | send t c k p e n =>
    cases h
    have hdrop := drop_counted p [byteOf e.toNat, byteOf (e.toNat / 256), n] hfits
    have htake := take_counted p [byteOf e.toNat, byteOf (e.toNat / 256), n] hfits
    have hcar : BitVec.ofNat 24 (leValue [byteOf c.toNat, byteOf (c.toNat / 256), byteOf (c.toNat / 256 / 256)]) = c := ofNat_carBytes c
    have hexpiry : BitVec.ofNat 16 (leValue [byteOf e.toNat, byteOf (e.toNat / 256)]) = e := ofNat_halfBytes e
    simp [readRequest, carBytes, halfBytes, leBytes, counted, hdrop, htake, hcar, hexpiry]
  | withdraw t n =>
    cases h
    exact congrArg (fun n => some (Instr.withdraw t n)) (ofNat_halfBytes n)
  | broadcast t p r u =>
    cases h
    have hdrop := drop_counted p [r, u] hfits
    have htake := take_counted p [r, u] hfits
    simp [readRequest, counted, hdrop, htake]
  | _ => cases h

/-! ### Control-link frames (R162) -/

/-- A control-link frame after its sync byte: length, kind, tag, body and check word. -/
theorem controlFrame_tail (kind tag : Byte) (body : List Byte) : (controlFrameBytes kind tag body).tail =
    byteOf (2 + body.length) :: byteOf ((2 + body.length) / 256) :: kind :: tag ::
      (body ++ halfBytes (checkWord (halfBytes (2 + body.length) ++ kind :: tag :: body)).toNat) := rfl

theorem controlCommand_frame {kind tag : Byte} {body : List Byte} (h : body.length ≤ maxBody) :
    controlCommand (controlFrameBytes kind tag body).tail = .requestReceived kind tag body := by
  have hlength : leValue [byteOf (2 + body.length), byteOf ((2 + body.length) / 256)] = 2 + body.length :=
    leValue_halfBytes (Nat.lt_of_le_of_lt (Nat.add_le_add_left h 2) (by decide))
  have hcheck : checkMatches (controlFrameBytes kind tag body).tail = true := checkMatches_withCheck _
  rw [controlFrame_tail] at hcheck ⊢
  have hrest : (body ++ halfBytes (checkWord (halfBytes (2 + body.length) ++ kind :: tag :: body)).toNat).length =
      2 + body.length - 2 + 2 := by
    rw [List.length_append, halfBytes, length_leBytes]
    omega
  have hshort : 2 + body.length ≤ 300 := Nat.add_le_add_left h 2
  simp only [controlCommand, hlength]
  rw [if_pos ⟨Nat.le_add_right 2 _, hshort, hrest, hcheck⟩, Nat.add_sub_cancel_left, List.take_left]

/-- Only those bytes read as that arrival. -/
theorem eq_frame_of_controlCommand {kind tag : Byte} {body bytes : List Byte}
    (h : controlCommand bytes = .requestReceived kind tag body) : bytes = (controlFrameBytes kind tag body).tail := by
  unfold controlCommand at h
  split at h
  · next l0 l1 k t rest =>
    dsimp only at h
    split at h
    · next hframe =>
      obtain ⟨hleast, -, hrest, hcheck⟩ := hframe
      obtain ⟨-, hcheck⟩ := checkMatches_iff.mp hcheck
      obtain ⟨rfl, rfl, rfl⟩ := Instr.requestReceived.inj h
      have hlength : 2 + (rest.take (leValue [l0, l1] - 2)).length = leValue [l0, l1] := by
        rw [List.length_take, hrest]
        omega
      have htake : (l0 :: l1 :: k :: t :: rest).take ((l0 :: l1 :: k :: t :: rest).length - 2) =
          l0 :: l1 :: k :: t :: rest.take (leValue [l0, l1] - 2) := by
        have hcount : (l0 :: l1 :: k :: t :: rest).length - 2 = leValue [l0, l1] - 2 + 4 := by
          simp only [List.length_cons, hrest]
          omega
        rw [hcount]
        rfl
      rw [htake] at hcheck
      have hhalf := halfBytes_leValue l0 l1
      rw [controlFrameBytes, List.tail_cons, hlength, hhalf]
      exact hcheck.symm
    · cases h
  · cases h

/-- Settles O14: each row's body has the size its fields give, and a frame that passes the check is the bytes that make it. -/
theorem requestsReadBack : Obligations.RequestsReadBack :=
  ⟨fun _ _ h hfits => readRequest_of_requestOf h hfits,
    fun _ _ _ h => ⟨controlCommand_frame h, fun _ hbytes => eq_frame_of_controlCommand hbytes⟩⟩

end Sys2Proof.Proofs
end

section
/-!
PROOFS. Chain frames read back at the neighbour (R129, 12.2).
-/
namespace Sys2Proof.Proofs
open Sys2Proof.Machine

/-! ### Bodies -/

/-- Whether a PASS body carries 1 to 64 bytes; the other bodies have nothing that varies. -/
def passFits : ChainBody → Prop
  | .pass b => 1 ≤ b.payload.length ∧ b.payload.length ≤ 64
  | _ => True

theorem readChainBody_bytes {b : ChainBody} (h : passFits b) : readChainBody (chainBodyBytes b).1 (chainBodyBytes b).2 = some b := by
  cases b with
  | offer b =>
    exact congrArg (fun c => some (ChainBody.offer { b with car := c })) (ofNat_carBytes b.car)
  | accept b => exact congrArg (fun c => some (ChainBody.accept { b with car := c })) (ofNat_carBytes b.car)
  | refuse c r => exact congrArg (fun c => some (ChainBody.refuse c r)) (ofNat_carBytes c)
  | cancel c => exact congrArg (fun c => some (ChainBody.cancel c)) (ofNat_carBytes c)
  | done c => exact congrArg (fun c => some (ChainBody.done c)) (ofNat_carBytes c)
  | pass b =>
    obtain ⟨hone, hall⟩ := h
    have hcount : (byteOf b.payload.length).toNat = b.payload.length := by
      rw [toNat_byteOf]
      omega
    refine (if_pos ⟨by rw [hcount]; exact hone, by rw [hcount]; exact hall, hcount.symm⟩).trans ?_
    exact congrArg some (congrArg ChainBody.pass (congrArg₂ (fun c h => { b with car := c, stamp := h })
      (ofNat_carBytes b.car) (ofNat_halfBytes b.stamp)))

theorem byte_of_toNat {k : Byte} {n : Nat} (h : k.toNat = n) : k = byteOf n := by rw [← h, byteOf_toNat]

/-- Only its own kind and bytes read as a body. -/
theorem chainBodyBytes_of_read {k : Byte} {body : List Byte} {b : ChainBody} (h : readChainBody k body = some b) :
    chainBodyBytes b = (k, body) ∧ passFits b := by
  unfold readChainBody at h
  split at h
  · next c0 c1 c2 k' a s n l d hk =>
    obtain rfl := Option.some.inj h
    obtain rfl := byte_of_toNat hk
    exact ⟨congrArg (fun bs => ((0x01 : Byte), bs ++ [k', a, s, n, l, d])) (carBytes_ofNat c0 c1 c2), trivial⟩
  · next c0 c1 c2 i ch k' hk =>
    obtain rfl := Option.some.inj h
    obtain rfl := byte_of_toNat hk
    exact ⟨congrArg (fun bs => ((0x02 : Byte), bs ++ [i, ch, k'])) (carBytes_ofNat c0 c1 c2), trivial⟩
  · next c0 c1 c2 r hk =>
    obtain rfl := Option.some.inj h
    obtain rfl := byte_of_toNat hk
    exact ⟨congrArg (fun bs => ((0x03 : Byte), bs ++ [r])) (carBytes_ofNat c0 c1 c2), trivial⟩
  · next c0 c1 c2 hk =>
    obtain rfl := Option.some.inj h
    obtain rfl := byte_of_toNat hk
    exact ⟨congrArg (fun bs => ((0x04 : Byte), bs)) (carBytes_ofNat c0 c1 c2), trivial⟩
  · next c0 c1 c2 hk =>
    obtain rfl := Option.some.inj h
    obtain rfl := byte_of_toNat hk
    exact ⟨congrArg (fun bs => ((0x05 : Byte), bs)) (carBytes_ofNat c0 c1 c2), trivial⟩
  · next o c0 c1 c2 k' n s0 s1 m x payload hk =>
    split at h
    · next hfits =>
      obtain ⟨hone, hall, hcount⟩ := hfits
      obtain rfl := Option.some.inj h
      obtain rfl := byte_of_toNat hk
      refine ⟨?_, by rw [hcount]; exact hone, by rw [hcount]; exact hall⟩
      have hcar := carBytes_ofNat c0 c1 c2
      have hstamp := halfBytes_ofNat s0 s1
      simp only [chainBodyBytes, hcar, hstamp, hcount, byteOf_toNat]
      rfl
    · cases h
  · cases h

/-! ### Frames (R129) -/

theorem length_chainBody {b : ChainBody} (h : passFits b) : (chainBodyBytes b).2.length ≤ 74 := by
  cases b with
  | pass b =>
    obtain ⟨-, hall⟩ := h
    simp [chainBodyBytes, carBytes, halfBytes, leBytes]
    omega
  | _ => simp [chainBodyBytes, carBytes, leBytes]

/-- A chain frame after its sync byte: length, kind, addresses, hop count, body and check word. -/
theorem chainFrame_tail (f : ChainFrame) : (chainFrameBytes f).tail =
    byteOf (4 + (chainBodyBytes f.body).2.length) :: (chainBodyBytes f.body).1 :: f.src :: f.dst :: f.hop ::
      ((chainBodyBytes f.body).2 ++ halfBytes (checkWord (byteOf (4 + (chainBodyBytes f.body).2.length) ::
        (chainBodyBytes f.body).1 :: f.src :: f.dst :: f.hop :: (chainBodyBytes f.body).2)).toNat) := rfl

theorem sendable_iff {f : ChainFrame} : sendable f ↔ passFits f.body ∧ ((chainBodyBytes f.body).1 = 0x10 ∨ f.hop = 0) := by
  obtain ⟨src, dst, hop, body⟩ := f
  cases body <;> simp [sendable, passFits, chainBodyBytes]

theorem readChainFrame_frame {f : ChainFrame} (h : sendable f) : readChainFrame (chainFrameBytes f).tail = some f := by
  obtain ⟨hfits, hhop⟩ := sendable_iff.mp h
  have hshort := length_chainBody hfits
  have hcheck : checkMatches (chainFrameBytes f).tail = true := checkMatches_withCheck _
  have hbody := readChainBody_bytes hfits
  rw [chainFrame_tail] at hcheck ⊢
  generalize (chainBodyBytes f.body).1 = k at hcheck hbody hhop ⊢
  generalize (chainBodyBytes f.body).2 = body at hcheck hbody hshort ⊢
  have hlength : (byteOf (4 + body.length)).toNat = 4 + body.length := by
    rw [toNat_byteOf]
    omega
  have hrest : (body ++ halfBytes (checkWord (byteOf (4 + body.length) :: k :: f.src :: f.dst :: f.hop :: body)).toNat).length =
      4 + body.length - 4 + 2 := by
    rw [List.length_append, halfBytes, length_leBytes]
    omega
  simp only [readChainFrame, hlength]
  rw [if_pos ⟨Nat.le_add_right 4 _, Nat.add_le_add_left hshort 4, hrest, hcheck⟩]
  simp only [Nat.add_sub_cancel_left, List.take_left, hbody]
  exact if_pos hhop

theorem frame_of_readChainFrame {f : ChainFrame} {bytes : List Byte} (h : readChainFrame bytes = some f) :
    bytes = (chainFrameBytes f).tail := by
  unfold readChainFrame at h
  split at h
  · next l k src dst hop rest =>
    split at h
    · next hframe =>
      obtain ⟨hleast, -, hrest, hcheck⟩ := hframe
      obtain ⟨-, hcheck⟩ := checkMatches_iff.mp hcheck
      split at h
      · cases h
      · next b hb =>
        split at h
        · obtain rfl := Option.some.inj h
          obtain ⟨hbytes, -⟩ := chainBodyBytes_of_read hb
          have hlength : 4 + (rest.take (l.toNat - 4)).length = l.toNat := by
            rw [List.length_take, hrest]
            omega
          have htake : (l :: k :: src :: dst :: hop :: rest).take ((l :: k :: src :: dst :: hop :: rest).length - 2) =
              l :: k :: src :: dst :: hop :: rest.take (l.toNat - 4) := by
            have hcount : (l :: k :: src :: dst :: hop :: rest).length - 2 = l.toNat - 4 + 5 := by
              simp only [List.length_cons, hrest]
              omega
            rw [hcount]
            rfl
          rw [htake] at hcheck
          rw [chainFrameBytes, List.tail_cons, hbytes, hlength, byteOf_toNat]
          exact hcheck.symm
        · cases h
    · cases h
  · cases h

/-- Settles O15: each body reads back by its kind, and a frame that passes the check is the bytes that make it. -/
theorem chainFrameReadsBack : Obligations.ChainFrameReadsBack :=
  fun _ h => ⟨readChainFrame_frame h, fun _ hbytes => frame_of_readChainFrame hbytes⟩

end Sys2Proof.Proofs
end

section
/-!
PROOFS. The receivers of the three lines, byte by byte (R128, R129, R161, R162).
-/
namespace Sys2Proof.Proofs
open Sys2Proof.Machine

section
variable {f : Framing} {may : Bool} {s : State} {p : PortId}

/-! ### When the bytes taken are a whole frame -/

/-- The length that the bytes taken give. -/
def lengthField (f : Framing) (bs : List LineByte) : Nat := leValue (((bs.drop 1).take f.width).map LineByte.value)

theorem whole_iff {bs : List LineByte} : f.whole bs = true ↔ f.width < bs.length ∧
    (lengthField f bs < f.least ∨ f.most < lengthField f bs ∨ f.width + lengthField f bs + 3 ≤ bs.length) := by
  simp [Framing.whole, lengthField, or_assoc]

/-- Whether a frame of a good length has ended. -/
theorem whole_of_length {bs : List LineByte} {l : Nat} (hl : lengthField f bs = l) (hleast : f.least ≤ l) (hmost : l ≤ f.most) :
    f.whole bs = decide (f.width + l + 3 ≤ bs.length) := by
  rw [Bool.eq_iff_iff, whole_iff, hl, decide_eq_true_iff]
  omega

theorem not_whole_of_short {bs : List LineByte} (h : bs.length ≤ f.width) : f.whole bs = false :=
  Bool.eq_false_iff.mpr fun hwhole => absurd (whole_iff.mp hwhole).1 (Nat.not_lt.mpr h)

theorem lengthField_take {bs : List LineByte} {n : Nat} (h : f.width < n) : lengthField f (bs.take n) = lengthField f bs := by
  rw [lengthField, List.drop_take, List.take_take, Nat.min_eq_left (by omega), lengthField]

/-- Of a frame of a good length no part that comes first is whole. -/
theorem not_whole_take {bs : List LineByte} {l n : Nat} (hl : lengthField f bs = l) (hleast : f.least ≤ l) (hmost : l ≤ f.most)
    (h : n < f.width + l + 3) : f.whole (bs.take n) = false := by
  by_cases hn : f.width < n
  · rw [whole_of_length ((lengthField_take hn).trans hl) hleast hmost, decide_eq_false_iff_not, List.length_take]
    omega
  · exact not_whole_of_short ((List.length_take_le n bs).trans (Nat.not_lt.mp hn))

/-! ### Bytes taken one after the other -/

/-- What a receiver is after bytes, and the frames that they end. -/
def takeAll (f : Framing) (may : Bool) : List LineByte → Receiver → Receiver × List (List LineByte)
  | [], r => (r, [])
  | b :: bs, r => ((takeAll f may bs (r.take f may b).1).1, (r.take f may b).2.toList ++ (takeAll f may bs (r.take f may b).1).2)

theorem takeAll_append (xs ys : List LineByte) (r : Receiver) : takeAll f may (xs ++ ys) r =
    ((takeAll f may ys (takeAll f may xs r).1).1, (takeAll f may xs r).2 ++ (takeAll f may ys (takeAll f may xs r).1).2) := by
  induction xs generalizing r with
  | nil => rfl
  | cons x xs ih => simp only [List.cons_append, takeAll, ih, List.append_assoc]

/-- Bytes that do not yet end the frame. -/
theorem takeAll_inside (bs more : List LineByte) (h : ∀ n, 1 ≤ n → n ≤ more.length → f.whole (bs ++ more.take n) = false) :
    takeAll f may more (.inside bs) = (.inside (bs ++ more), []) := by
  induction more generalizing bs with
  | nil => rw [List.append_nil]; rfl
  | cons b more ih =>
    have hfirst : f.whole (bs ++ [b]) = false := h 1 Nat.one_pos (Nat.succ_le_succ (Nat.zero_le _))
    have hrest := ih (bs ++ [b]) fun n hn hle => by
      rw [List.append_assoc]
      exact h (n + 1) (Nat.le_add_left 1 n) (Nat.succ_le_succ hle)
    simp only [takeAll, Receiver.take, hfirst, Bool.false_eq_true, if_false, hrest, List.append_assoc]
    rfl

/-- The bytes of a whole frame of a good length, its sync byte first, end that one frame. -/
theorem takeAll_frame {b0 last : LineByte} {mid : List LineByte} {l : Nat} (hsync : b0.value = f.sync)
    (hl : lengthField f (b0 :: mid ++ [last]) = l) (hleast : f.least ≤ l) (hmost : l ≤ f.most)
    (hlength : (b0 :: mid ++ [last]).length = f.width + l + 3) :
    takeAll f true (b0 :: mid ++ [last]) .hunting = (.inside (b0 :: mid ++ [last]), [b0 :: mid ++ [last]]) := by
  have hmid : takeAll f true mid (.inside [b0]) = (.inside (b0 :: mid), []) := by
    refine takeAll_inside [b0] mid fun n hn hle => ?_
    have htake : [b0] ++ mid.take n = (b0 :: mid ++ [last]).take (n + 1) := by
      have hcons : (b0 :: mid ++ [last]).take (n + 1) = b0 :: (mid ++ [last]).take n := rfl
      rw [hcons, List.take_append_of_le_length hle]
      rfl
    rw [htake]
    refine not_whole_take hl hleast hmost ?_
    simp only [List.length_append, List.length_cons, List.length_nil] at hlength
    omega
  have hwhole : f.whole (b0 :: mid ++ [last]) = true := by
    rw [whole_of_length hl hleast hmost, hlength]
    exact decide_eq_true (Nat.le_refl _)
  have hstart : takeAll f true (b0 :: mid) .hunting = (.inside (b0 :: mid), []) := by
    simp only [takeAll, Receiver.take, hsync, and_self, if_true, hmid]
    rfl
  rw [takeAll_append, hstart]
  simp only [takeAll, Receiver.take, hwhole, if_true]
  rfl

/-! ### The control link -/

theorem toList_map {α β : Type} (g : α → β) (o : Option α) : (o.map g).toList = o.toList.map g := by cases o <;> rfl

theorem toList_map_ite {α β : Type} (g : α → β) (c : Prop) [Decidable c] (a : α) :
    ((if c then some a else none).map g).toList = if c then [g a] else [] := by split <;> rfl

theorem receiveByte_control (h : s.inReset = false) (b : LineByte) : receiveByte .control b s = controlByte b s :=
  if_neg (by rw [h]; decide)

/-- The bytes of the control link, one after the other. -/
theorem foldl_controlBytes (h : s.inReset = false) (bs : List LineByte) : bs.foldl (fun t b => receiveByte .control b t) s = { s with
    control := { s.control with receiver := (takeAll controlFraming s.control.mayStart bs s.control.receiver).1 }
    pending := s.pending ++ (takeAll controlFraming s.control.mayStart bs s.control.receiver).2.map controlRow } := by
  induction bs generalizing s with
  | nil =>
    simp only [List.foldl_nil, takeAll, List.map_nil, List.append_nil]
  | cons b bs ih =>
    rw [List.foldl_cons, receiveByte_control h, ih (s := controlByte b s) h]
    simp only [controlByte, takeAll, List.map_append, toList_map, List.append_assoc]
    rfl

theorem all_stop (vs : List Byte) : (vs.map fun v => ({ value := v, stop := true } : LineByte)).all LineByte.stop = true := by
  simp

theorem values_sent (vs : List Byte) : (vs.map fun v => ({ value := v, stop := true } : LineByte)).tail.map LineByte.value = vs.tail := by
  cases vs <;> simp [Function.comp_def]

/-! ### A chain port -/

theorem receiveByte_chain (h : s.inReset = false) (b : LineByte) : receiveByte (.chain p) b s =
    { s.setPort p { s.port p with receiver := ((s.port p).receiver.take chainFraming true b).1 } with
      pending := s.pending ++ (if b.stop = true ∧ (s.port p).isUp = false then [.portUp p] else []) ++
        (((s.port p).receiver.take chainFraming true b).2.map (chainRow p)).toList } := by
  have hport : (if (b.stop && !(s.port p).isUp) = true then [Instr.portUp p] else []) =
      if b.stop = true ∧ (s.port p).isUp = false then [Instr.portUp p] else [] := by simp
  rw [← hport]
  exact if_neg (by rw [h]; decide)

/-- The bytes of an UP port, one after the other. -/
theorem foldl_chainBytes (h : s.inReset = false) (hup : (s.port p).isUp = true) (bs : List LineByte) :
    bs.foldl (fun t b => receiveByte (.chain p) b t) s =
      { s.setPort p { s.port p with receiver := (takeAll chainFraming true bs (s.port p).receiver).1 } with
        pending := s.pending ++ (takeAll chainFraming true bs (s.port p).receiver).2.map (chainRow p) } := by
  induction bs generalizing s with
  | nil =>
    have hport := setPort_port s p
    simp only [List.foldl_nil, takeAll, List.map_nil, List.append_nil, hport]
  | cons b bs ih =>
    have hbyte : receiveByte (.chain p) b s =
        { s.setPort p { s.port p with receiver := ((s.port p).receiver.take chainFraming true b).1 } with
          pending := s.pending ++ (((s.port p).receiver.take chainFraming true b).2.toList.map (chainRow p)) } := by
      rw [receiveByte_chain h, hup, toList_map]
      simp
    have hport (x : Port) (cs : List Instr) : ({ s.setPort p x with pending := cs } : State).port p = x := port_setPort_self s p x
    have hset (x y : Port) (cs : List Instr) : ({ s.setPort p x with pending := cs } : State).setPort p y =
        { s.setPort p y with pending := cs } := by cases p <;> rfl
    rw [List.foldl_cons, hbyte, ih (by cases p <;> exact h) (by rw [hport]; exact hup), hport, hset]
    simp only [takeAll, List.map_append, List.append_assoc]

/-! ### One byte inside a frame -/

theorem takeAll_sent {b0 : LineByte} {tl : List LineByte} {l : Nat} (hsync : b0.value = f.sync) (hl : lengthField f (b0 :: tl) = l)
    (hleast : f.least ≤ l) (hmost : l ≤ f.most) (hlength : (b0 :: tl).length = f.width + l + 3) :
    takeAll f true (b0 :: tl) .hunting = (.inside (b0 :: tl), [b0 :: tl]) := by
  rcases List.eq_nil_or_concat tl with rfl | ⟨mid, last, rfl⟩
  · simp only [List.length_cons, List.length_nil] at hlength
    omega
  · rw [List.concat_eq_append] at hl hlength ⊢
    exact takeAll_frame hsync hl hleast hmost hlength

theorem controlByte_inside {bs : List LineByte} (h : s.control.receiver = .inside bs) (b : LineByte) : controlByte b s = { s with
    control := { s.control with receiver := .inside (bs ++ [b]) }
    pending := s.pending ++ if controlFraming.whole (bs ++ [b]) then [controlRow (bs ++ [b])] else [] } := by
  simp only [controlByte, h, Receiver.take]
  split <;> rfl

theorem controlRow_eq (bs : List LineByte) : [controlRow bs] =
    if ∀ x ∈ bs, x.stop = true then [controlCommand (bs.tail.map LineByte.value)] else [.controlBadFrame] := by
  simp only [controlRow, List.all_eq_true]
  split <;> rfl

theorem chainRow_eq (p : PortId) (bs : List LineByte) : [chainRow p bs] =
    if ∀ x ∈ bs, x.stop = true then [chainCommand p (bs.tail.map LineByte.value)] else [.chainBadFrame p] := by
  simp only [chainRow, List.all_eq_true]
  split <;> rfl

theorem mayStart_iff {k : ControlLink} : k.mayStart = true ↔ k.busy.length < 8 ∧ k.restarting = false := by
  rw [ControlLink.mayStart, Bool.and_eq_true, decide_eq_true_iff, Bool.not_eq_true']
  exact Iff.rfl

/-- A byte on the control link between frames starts one, or is discarded (R162). -/
theorem controlByte_hunting (h : s.control.receiver = .hunting) (b : LineByte) : controlByte b s =
    if b.value = 0xC3 ∧ s.control.busy.length < 8 ∧ s.control.restarting = false then
      { s with control := { s.control with receiver := .inside [b] }, pending := s.pending ++ [] }
    else s := by
  have hstarts : (b.value = controlFraming.sync ∧ s.control.mayStart = true) ↔
      b.value = 0xC3 ∧ s.control.busy.length < 8 ∧ s.control.restarting = false := by
    rw [mayStart_iff]
    exact Iff.rfl
  simp only [controlByte, h, Receiver.take, hstarts]
  split
  · rfl
  · rw [← h]
    exact congrArg (fun cs => { s with pending := cs }) (List.append_nil s.pending)

theorem chainByte_inside {bs : List LineByte} (hr : s.inReset = false) (h : (s.port p).receiver = .inside bs) (b : LineByte) :
    receiveByte (.chain p) b s = { s.setPort p { s.port p with receiver := .inside (bs ++ [b]) } with
      pending := s.pending ++ (if b.stop = true ∧ (s.port p).isUp = false then [.portUp p] else []) ++
        if chainFraming.whole (bs ++ [b]) then [chainRow p (bs ++ [b])] else [] } := by
  rw [receiveByte_chain hr, h]
  simp only [Receiver.take, toList_map_ite]

/-! ### The length bytes -/

theorem lengthField_control (s0 l0 l1 : LineByte) (rest : List LineByte) :
    lengthField controlFraming (s0 :: l0 :: l1 :: rest) = l0.value.toNat + 256 * l1.value.toNat := by
  simp [lengthField, controlFraming, leValue]

theorem lengthField_chain (s0 l0 : LineByte) (rest : List LineByte) : lengthField chainFraming (s0 :: l0 :: rest) = l0.value.toNat := by
  simp [lengthField, chainFraming, leValue]

/-- The second length byte of a control-link frame ends the frame when the length is a bad one. -/
theorem controlRow_lengths (s0 l0 b : LineByte) :
    (if controlFraming.whole ([s0, l0] ++ [b]) then [controlRow ([s0, l0] ++ [b])] else []) =
      if l0.value.toNat + 256 * b.value.toNat < 2 ∨ 300 < l0.value.toNat + 256 * b.value.toNat then [.controlBadFrame] else [] := by
  have hrow : controlRow ([s0, l0] ++ [b]) = .controlBadFrame := by
    unfold controlRow
    split <;> rfl
  have hwhole : controlFraming.whole ([s0, l0] ++ [b]) = true ↔
      l0.value.toNat + 256 * b.value.toNat < 2 ∨ 300 < l0.value.toNat + 256 * b.value.toNat := by
    rw [whole_iff, show [s0, l0] ++ [b] = [s0, l0, b] from rfl, lengthField_control]
    simp only [controlFraming, List.length_cons, List.length_nil]
    omega
  rw [hrow]
  exact if_congr hwhole rfl rfl

/-- The length byte of a chain frame does so too. -/
theorem chainRow_length (p : PortId) (s0 b : LineByte) :
    (if chainFraming.whole ([s0] ++ [b]) then [chainRow p ([s0] ++ [b])] else []) =
      if b.value.toNat < 4 ∨ 78 < b.value.toNat then [.chainBadFrame p] else [] := by
  have hrow : chainRow p ([s0] ++ [b]) = .chainBadFrame p := by
    unfold chainRow
    split <;> rfl
  have hwhole : chainFraming.whole ([s0] ++ [b]) = true ↔ b.value.toNat < 4 ∨ 78 < b.value.toNat := by
    rw [whole_iff, show [s0] ++ [b] = [s0, b] from rfl, lengthField_chain]
    simp only [chainFraming, List.length_cons, List.length_nil]
    omega
  rw [hrow]
  exact if_congr hwhole rfl rfl

/-- A frame handed on once it is whole, said by the bytes that are missing. -/
theorem if_whole {α : Type} {n m l k : Nat} (h : n ≤ m ↔ ¬ l < k) (xs : List α) :
    (if decide (n ≤ m) = true then xs else []) = if l < k then [] else xs := by
  by_cases hlt : l < k
  · rw [if_pos hlt, if_neg]
    rw [decide_eq_true_iff, h]
    exact not_not.mpr hlt
  · rw [if_neg hlt, if_pos]
    rw [decide_eq_true_iff, h]
    exact hlt

end

/-- A byte as a line brings it with a good stop bit. -/
def goodByte (v : Byte) : LineByte := { value := v, stop := true }

theorem takeAll_controlFrame {kind tag : Byte} {body : List Byte} (h : body.length ≤ 298) :
    takeAll controlFraming true ((controlFrameBytes kind tag body).map goodByte) .hunting =
      (.inside ((controlFrameBytes kind tag body).map goodByte), [(controlFrameBytes kind tag body).map goodByte]) := by
  have hfield : lengthField controlFraming ((controlFrameBytes kind tag body).map goodByte) = 2 + body.length :=
    leValue_halfBytes (Nat.lt_of_le_of_lt (Nat.add_le_add_left h 2) (by decide))
  have hlength : ((controlFrameBytes kind tag body).map goodByte).length = 2 + (2 + body.length) + 3 := by
    rw [List.length_map, controlFrameBytes, List.length_cons, length_withCheck, List.length_append, halfBytes, length_leBytes]
    simp only [List.length_cons]
    omega
  exact takeAll_sent rfl hfield (Nat.le_add_right 2 _) (Nat.add_le_add_left h 2) hlength

theorem takeAll_chainFrame {f : ChainFrame} (h : sendable f) :
    takeAll chainFraming true ((chainFrameBytes f).map goodByte) .hunting =
      (.inside ((chainFrameBytes f).map goodByte), [(chainFrameBytes f).map goodByte]) := by
  have hshort := length_chainBody (sendable_iff.mp h).1
  have hfield : lengthField chainFraming ((chainFrameBytes f).map goodByte) = 4 + (chainBodyBytes f.body).2.length := by
    refine (lengthField_chain _ (goodByte (byteOf (4 + (chainBodyBytes f.body).2.length))) _).trans ?_
    refine (toNat_byteOf _).trans ?_
    omega
  have hlength : ((chainFrameBytes f).map goodByte).length = 1 + (4 + (chainBodyBytes f.body).2.length) + 3 := by
    rw [List.length_map, chainFrameBytes, List.length_cons, length_withCheck]
    simp only [List.length_cons]
    omega
  exact takeAll_sent rfl hfield (Nat.le_add_right 4 _) (Nat.add_le_add_left hshort 4) hlength

theorem controlRow_sent {kind tag : Byte} {body : List Byte} (h : body.length ≤ 298) :
    controlRow ((controlFrameBytes kind tag body).map goodByte) = .requestReceived kind tag body := by
  refine (if_pos (all_stop _)).trans ?_
  exact (congrArg controlCommand (values_sent _)).trans (controlCommand_frame h)

theorem chainRow_sent {f : ChainFrame} (h : sendable f) (p : PortId) : chainRow p ((chainFrameBytes f).map goodByte) =
    match f.body with
    | .offer b => .offerReceived p f.src f.dst b
    | .accept b => .acceptReceived p f.src f.dst b
    | .refuse c r => .refuseReceived p f.src f.dst c r
    | .cancel c => .cancelReceived p f.src f.dst c
    | .done c => .doneReceived p f.src f.dst c
    | .pass b => .passReceived p f.src f.dst f.hop b := by
  refine (if_pos (all_stop _)).trans ((congrArg (chainCommand p) (values_sent _)).trans ?_)
  have hread := readChainFrame_frame h
  obtain ⟨src, dst, hop, body⟩ := f
  cases body <;> simp only [chainCommand, hread]

/-- Settles O16: a receiver inside a frame keeps its bytes until the length they give has been reached, and then hands the frame on. -/
theorem bytesBecomeFrames : Obligations.BytesBecomeFrames := by
  refine ⟨fun l b s h => if_pos h, fun s hr => ?_, fun p s hr => ?_⟩
  · intro k
    refine ⟨fun b hhunting => ?_, fun s0 b hin => ?_, fun s0 l0 b hin => ?_, fun s0 l0 l1 rest b hin => ?_, ?_⟩
    · rw [receiveByte_control hr]
      exact controlByte_hunting hhunting b
    · rw [receiveByte_control hr, controlByte_inside hin, not_whole_of_short (f := controlFraming) (bs := [s0] ++ [b]) (Nat.le_refl 2)]
      rfl
    · rw [receiveByte_control hr, controlByte_inside hin]
      exact congrArg (k [s0, l0, b]) (controlRow_lengths s0 l0 b)
    · intro l all hleast hmost
      rw [receiveByte_control hr, controlByte_inside hin, whole_of_length (bs := all) (lengthField_control s0 l0 l1 (rest ++ [b])) hleast hmost,
        controlRow_eq]
      have hcount : all.length = rest.length + 4 := by simp [all]
      exact congrArg (k all) (if_whole (by rw [hcount]; simp only [controlFraming]; omega) _)
    · intro kind tag body hshort hhunting hbusy hrestart sent
      have hmay : s.control.mayStart = true := mayStart_iff.mpr ⟨hbusy, hrestart⟩
      have hsent : sent = (controlFrameBytes kind tag body).map goodByte := rfl
      rw [hsent, foldl_controlBytes hr, hmay, hhunting, takeAll_controlFrame hshort, List.map_singleton, controlRow_sent hshort]
  · intro x k
    refine ⟨fun b hhunting => ?_, fun s0 b hin => ?_, fun s0 l0 rest b hin hleast hmost => ?_, ?_⟩
    · rw [receiveByte_chain hr, show (s.port p).receiver = .hunting from hhunting]
      refine congrArg (fun r => k b r []) (if_congr ?_ rfl rfl)
      simp [chainFraming]
    · rw [chainByte_inside hr hin]
      exact congrArg (k b (.inside [s0, b])) (chainRow_length p s0 b)
    · intro all
      rw [chainByte_inside hr hin, whole_of_length (bs := all) (lengthField_chain s0 l0 (rest ++ [b])) hleast hmost, chainRow_eq]
      have hcount : all.length = rest.length + 3 := by simp [all]
      exact congrArg (k b (.inside all)) (if_whole (by rw [hcount]; simp only [chainFraming]; omega) _)
    · intro f hf hhunting hup sent
      have hsent : sent = (chainFrameBytes f).map goodByte := rfl
      rw [hsent, foldl_chainBytes hr hup, show (s.port p).receiver = .hunting from hhunting, takeAll_chainFrame hf, List.map_singleton]
      exact congrArg (fun c : Instr => ({ s.setPort p { x with receiver := .inside sent } with pending := s.pending ++ [c] } : State))
        (chainRow_sent hf p)

end Sys2Proof.Proofs
end

section
/-!
PROOFS. The fields of the settings groups: their ranges, their widths, and their values as bytes (R171, R172, R180).
-/
namespace Sys2Proof.Proofs
open Sys2Proof.Machine

/-! ### The fields of a group (R171) -/

theorem length_fields (g : Group) : g.fields.length = g.count := by cases g <;> rfl

theorem widths_fields (g : Group) : g.fields.map FieldSpec.width = (List.range g.count).map g.width := by cases g <;> rfl

theorem width_field {g : Group} {k : Nat} {f : FieldSpec} (h : g.fields[k]? = some f) : f.width = g.width k := by
  have hwidth : (g.fields.map FieldSpec.width)[k]? = some f.width := by rw [List.getElem?_map, h]; rfl
  rw [widths_fields, List.getElem?_map] at hwidth
  obtain ⟨j, hj, hk⟩ := Option.map_eq_some_iff.mp hwidth
  obtain ⟨_, hplace⟩ := List.getElem?_eq_some_iff.mp hj
  rw [List.getElem_range] at hplace
  rw [hplace]
  exact hk.symm

/-- The place of an element in equal parts put end to end. -/
theorem getElem?_flatten_replicate {α : Type} (xs : List α) (n k : Nat) (h : k < n * xs.length) :
    (List.replicate n xs).flatten[k]? = xs[k % xs.length]? := by
  induction n generalizing k with
  | zero => rw [Nat.zero_mul] at h; cases h
  | succ n ih =>
    rw [List.replicate_succ, List.flatten_cons]
    by_cases hk : k < xs.length
    · rw [List.getElem?_append_left hk, Nat.mod_eq_of_lt hk]
    · rw [Nat.succ_mul] at h
      rw [List.getElem?_append_right (Nat.not_lt.mp hk), ih (k - xs.length) (by omega), Nat.mod_eq_sub_mod (Nat.not_lt.mp hk)]

theorem inRange_byteField (lo hi v : Nat) : (byteField lo hi).inRange v = true ↔ lo ≤ v ∧ v ≤ hi := by simp [byteField]

section
variable {f : FieldSpec} {k : Nat}

/-- The four fields of a queue, by their place in the group (R77). -/
theorem inRange_queueFields (h : queueFields[k % 4]? = some f) (hk : k < 16) (v : Nat) :
    f.inRange v = true ↔ Group.queues.allows k v := by
  have hlt : k % 4 < 4 := Nat.mod_lt k (by decide)
  simp only [Group.allows, Nat.not_le.mpr hk, if_false]
  generalize k % 4 = j at h hlt
  rcases j with _ | _ | _ | _ | j
  · obtain rfl := Option.some.inj h
    simp
    omega
  · obtain rfl := Option.some.inj h
    exact inRange_byteField 4 15 v
  · obtain rfl := Option.some.inj h
    exact (inRange_byteField 0 8 v).trans ⟨And.right, fun h => ⟨Nat.zero_le v, h⟩⟩
  · obtain rfl := Option.some.inj h
    exact (inRange_byteField 0 1 v).trans ⟨And.right, fun h => ⟨Nat.zero_le v, h⟩⟩
  · omega

/-- The five fields of a filter entry, by their place in the group (R74). -/
theorem inRange_filterFields (h : filterFields[k % 5]? = some f) (v : Nat) : f.inRange v = true ↔ Group.filter.allows k v := by
  have hlt : k % 5 < 5 := Nat.mod_lt k (by decide)
  simp only [Group.allows]
  generalize k % 5 = j at h hlt
  rcases j with _ | _ | _ | _ | _ | j
  · obtain rfl := Option.some.inj h
    exact (inRange_byteField 0 1 v).trans ⟨And.right, fun h => ⟨Nat.zero_le v, h⟩⟩
  · obtain rfl := Option.some.inj h
    exact (inRange_byteField 0 63 v).trans ⟨And.right, fun h => ⟨Nat.zero_le v, h⟩⟩
  · obtain rfl := Option.some.inj h
    exact (inRange_byteField 0 63 v).trans ⟨And.right, fun h => ⟨Nat.zero_le v, h⟩⟩
  · obtain rfl := Option.some.inj h
    simp
  · obtain rfl := Option.some.inj h
    exact (inRange_byteField 0 5 v).trans ⟨And.right, fun h => ⟨Nat.zero_le v, h⟩⟩
  · omega

/-- The range of a field is the one that R171 gives it. -/
theorem inRange_iff {g : Group} (h : g.fields[k]? = some f) (v : Nat) : f.inRange v = true ↔ g.allows k v := by
  have hk : k < g.count := length_fields g ▸ (List.getElem?_eq_some_iff.mp h).1
  cases g with
  | node => rcases k with _ | _ | _ | _ | _ | _ | k <;> simp [Group.fields] at h <;> subst h <;> simp [byteField, Group.allows]
  | round => rcases k with _ | _ | _ | _ | _ | _ | k <;> simp [Group.fields] at h <;> subst h <;> simp [byteField, halfField, Group.allows]
  | roster => rcases k with _ | _ | _ | _ | k <;> simp [Group.fields] at h <;> subst h <;> simp [byteField, Group.allows]
  | link => rcases k with _ | _ | _ | _ | _ | k <;> simp [Group.fields] at h <;> subst h <;> simp [byteField, Group.allows]
  | handover => rcases k with _ | _ | _ | _ | k <;> simp [Group.fields] at h <;> subst h <;> simp [byteField, Group.allows]
  | downlink => rcases k with _ | _ | k <;> simp [Group.fields] at h <;> subst h <;> simp [byteField, Group.allows]
  | queues =>
    by_cases hqueue : k < 16
    · have hplace : queueFields[k % 4]? = some f := by
        rw [← h, Group.fields, List.getElem?_append_left (by exact hqueue)]
        exact (getElem?_flatten_replicate queueFields 4 k hqueue).symm
      exact inRange_queueFields hplace hqueue v
    · have hlast : f = byteField 0 3 := by
        rw [Group.fields, List.getElem?_append_right (by exact Nat.not_lt.mp hqueue)] at h
        have hcount : k < 18 := hk
        obtain rfl | rfl : k = 16 ∨ k = 17 := by omega
        · exact (Option.some.inj h).symm
        · exact (Option.some.inj h).symm
      simp only [hlast, inRange_byteField, Group.allows, Nat.not_lt.mp hqueue, if_true]
      exact ⟨And.right, fun h => ⟨Nat.zero_le v, h⟩⟩
  | filter =>
    refine inRange_filterFields ?_ v
    rw [← h]
    exact (getElem?_flatten_replicate filterFields 16 k hk).symm
  | pattern =>
    by_cases hfirst : k < 4
    · rw [Group.fields, List.getElem?_append_left (by exact hfirst)] at h
      rcases k with _ | _ | _ | _ | k <;> simp at h <;> subst h <;> simp [byteField, Group.allows, or_assoc]
    · have hbyte : f = byteField 0 255 := by
        rw [Group.fields, List.getElem?_append_right (by exact Nat.not_lt.mp hfirst)] at h
        exact List.eq_of_mem_replicate (List.mem_of_getElem? h)
      rcases k with _ | _ | _ | _ | k
      iterate 4 omega
      simp [hbyte, byteField, Group.allows]

/-! ### The first field outside its range (R172) -/

theorem zip_place {g : Group} {vs : List Nat} {j : Nat} {p : FieldSpec × Nat} (h : (g.fields.zip vs)[j]? = some p) :
    vs[j]? = some p.2 ∧ (p.1.inRange p.2 = true ↔ g.allows j p.2) := by
  obtain ⟨hf, hv⟩ := List.getElem?_zip_eq_some.mp h
  exact ⟨hv, inRange_iff hf p.2⟩

/-- Every value of a full list stands beside its field. -/
theorem zip_of_value {g : Group} {vs : List Nat} (hlen : vs.length = g.count) {j v : Nat} (h : vs[j]? = some v) :
    ∃ f, (g.fields.zip vs)[j]? = some (f, v) := by
  have hj : j < g.fields.length := by
    rw [length_fields, ← hlen]
    exact (List.getElem?_eq_some_iff.mp h).1
  exact ⟨g.fields[j], List.getElem?_zip_eq_some.mpr ⟨List.getElem?_eq_getElem hj, h⟩⟩

theorem firstBadField_none_iff {g : Group} {vs : List Nat} (hlen : vs.length = g.count) :
    firstBadField g.fields vs = none ↔ ∀ k v, vs[k]? = some v → g.allows k v := by
  rw [firstBadField_eq_none_iff]
  refine ⟨fun h k v hv => ?_, fun h p hp => ?_⟩
  · obtain ⟨f, hz⟩ := zip_of_value hlen hv
    exact (zip_place hz).2.mp (h _ (List.mem_of_getElem? hz))
  · obtain ⟨j, hj⟩ := List.getElem?_of_mem hp
    obtain ⟨hv, hin⟩ := zip_place hj
    exact hin.mpr (h j p.2 hv)

theorem firstBadField_some_iff {g : Group} {vs : List Nat} (hlen : vs.length = g.count) (k : Nat) :
    firstBadField g.fields vs = some k ↔
      (∃ v, vs[k]? = some v ∧ ¬ g.allows k v) ∧ ∀ j v, j < k → vs[j]? = some v → g.allows j v := by
  rw [firstBadField, List.findIdx?_eq_some_iff_getElem]
  constructor
  · rintro ⟨hk, hbad, hbefore⟩
    obtain ⟨hv, hin⟩ := zip_place (List.getElem?_eq_getElem hk)
    refine ⟨⟨_, hv, fun hallowed => ?_⟩, fun j v hj hjv => ?_⟩
    · rw [hin.mpr hallowed] at hbad
      cases hbad
    · obtain ⟨f, hz⟩ := zip_of_value hlen hjv
      obtain ⟨hlt, hplace⟩ := List.getElem?_eq_some_iff.mp hz
      have hfirst := hbefore j hj
      rw [hplace, Bool.not_eq_true, Bool.not_eq_false'] at hfirst
      exact (zip_place hz).2.mp hfirst
  · rintro ⟨⟨v, hv, hbad⟩, hbefore⟩
    obtain ⟨f, hz⟩ := zip_of_value hlen hv
    obtain ⟨hk, hplace⟩ := List.getElem?_eq_some_iff.mp hz
    refine ⟨hk, ?_, fun j hj => ?_⟩
    · rw [hplace, Bool.not_eq_true', Bool.eq_false_iff]
      exact fun hin => hbad ((zip_place hz).2.mp hin)
    · obtain ⟨hjv, hin⟩ := zip_place (List.getElem?_eq_getElem (Nat.lt_trans hj hk))
      rw [hin.mpr (hbefore j _ hj hjv)]
      decide

/-! ### Values as bytes (R180) -/

theorem length_splitFields (fs : List FieldSpec) (bs : List Byte) : (splitFields fs bs).length = fs.length := by
  induction fs generalizing bs with
  | nil => rfl
  | cons f fs ih => rw [splitFields, List.length_cons, List.length_cons, ih]

/-- What is read from bytes fits the bytes of its field. -/
theorem splitFields_lt {fs : List FieldSpec} {bs : List Byte} {v : Nat} (hf : fs[k]? = some f) (hv : (splitFields fs bs)[k]? = some v) :
    v < 256 ^ f.width := by
  induction fs generalizing bs k with
  | nil => cases hf
  | cons f' fs ih =>
    cases k with
    | zero =>
      obtain rfl := Option.some.inj hf
      obtain rfl := Option.some.inj hv
      exact Nat.lt_of_lt_of_le (leValue_lt _) (Nat.pow_le_pow_right (by decide) (List.length_take_le _ _))
    | succ k => exact ih hf hv

theorem length_joinFields {fs : List FieldSpec} {vs : List Nat} (h : vs.length = fs.length) :
    (joinFields fs vs).length = (fs.map FieldSpec.width).sum := by
  induction fs generalizing vs with
  | nil => rfl
  | cons f fs ih =>
    cases vs with
    | nil => cases h
    | cons v vs => rw [joinFields, List.length_append, length_leBytes, ih (Nat.succ.inj h), List.map_cons, List.sum_cons]

/-- Values that fit their fields read back from their bytes. -/
theorem splitFields_joinFields {fs : List FieldSpec} {vs : List Nat} (h : vs.length = fs.length)
    (hfits : ∀ (k : Nat) (f : FieldSpec) (v : Nat), fs[k]? = some f → vs[k]? = some v → v < 256 ^ f.width) : splitFields fs (joinFields fs vs) = vs := by
  induction fs generalizing vs with
  | nil => exact (List.length_eq_zero_iff.mp h).symm
  | cons f fs ih =>
    cases vs with
    | nil => cases h
    | cons v vs =>
      have htake : (leBytes f.width v ++ joinFields fs vs).take f.width = leBytes f.width v :=
        List.take_left' (length_leBytes f.width v)
      have hdrop : (leBytes f.width v ++ joinFields fs vs).drop f.width = joinFields fs vs :=
        List.drop_left' (length_leBytes f.width v)
      rw [joinFields, splitFields, htake, hdrop, leValue_leBytes, Nat.mod_eq_of_lt (hfits 0 f v rfl rfl),
        ih (Nat.succ.inj h) fun k => hfits (k + 1)]

/-- Bytes of the size of a group are those of the values read from them. -/
theorem joinFields_splitFields {fs : List FieldSpec} {bs : List Byte} (h : bs.length = (fs.map FieldSpec.width).sum) :
    joinFields fs (splitFields fs bs) = bs := by
  induction fs generalizing bs with
  | nil => exact (List.length_eq_zero_iff.mp h).symm
  | cons f fs ih =>
    rw [List.map_cons, List.sum_cons] at h
    have htake : (bs.take f.width).length = f.width := by
      rw [List.length_take]
      omega
    have hfirst : leBytes f.width (leValue (bs.take f.width)) = bs.take f.width := by
      have hbytes := leBytes_leValue (bs.take f.width)
      rw [htake] at hbytes
      exact hbytes
    rw [splitFields, joinFields, hfirst, ih (by rw [List.length_drop]; omega), List.take_append_drop]

end

end Sys2Proof.Proofs
end

section
/-!
PROOFS. An image and the values of its groups (R171, R172, R174).
-/
namespace Sys2Proof.Proofs
open Sys2Proof.Machine

/-! ### Single values -/

theorem toNat_byteOf_le {n : Nat} (h : n ≤ 255) : (byteOf n).toNat = n := by
  rw [toNat_byteOf]
  omega

theorem toNat_code_le {n : Nat} (h : n ≤ 15) : (BitVec.ofNat 4 n).toNat = n := by
  rw [BitVec.toNat_ofNat]
  omega

theorem toNat_flag {n : Nat} (h : n ≤ 1) : (n == 1).toNat = n := by
  rcases Nat.le_one_iff_eq_zero_or_eq_one.mp h with rfl | rfl <;> rfl

theorem portal_code {n : Nat} (h : n ≤ 2) : (PortalDirection.ofCode n).code = n := by
  obtain rfl | rfl | rfl : n = 0 ∨ n = 1 ∨ n = 2 := by omega
  all_goals rfl

theorem mode_code {n : Nat} (h : n ≤ 1) : (RoundMode.ofCode n).code = n := by
  rcases Nat.le_one_iff_eq_zero_or_eq_one.mp h with rfl | rfl <;> rfl

theorem admission_code {n : Nat} (h : n ≤ 1) : (Admission.ofCode n).code = n := by
  rcases Nat.le_one_iff_eq_zero_or_eq_one.mp h with rfl | rfl <;> rfl

theorem pattern_code {n : Nat} (h : n ≤ 1) : (PatternKind.ofCode n).code = n := by
  rcases Nat.le_one_iff_eq_zero_or_eq_one.mp h with rfl | rfl <;> rfl

theorem dest_code {n : Nat} (h : n ≤ 5) : (Destination.ofCode n).code = n := by
  obtain rfl | rfl | rfl | rfl | rfl | rfl : n = 0 ∨ n = 1 ∨ n = 2 ∨ n = 3 ∨ n = 4 ∨ n = 5 := by omega
  all_goals rfl

theorem queueOf_val {n : Nat} (h : n ≤ 3) : (queueOf n).val = n := Nat.mod_eq_of_lt (Nat.lt_succ_of_le h)

/-! ### Values that a group allows -/

/-- The values of a group: one for each field, in its range and within its bytes. -/
structure Allowed (g : Group) (vs : List Nat) : Prop where
  length : vs.length = g.count
  allows : ∀ k v, vs[k]? = some v → g.allows k v
  fits : ∀ k v, vs[k]? = some v → v < 256 ^ g.width k

/-- The values of one queue (R77). -/
def queueValues (q : QueueSetting) : List Nat := [q.depth, q.storage.toNat, q.threshold, q.notice.toNat]

/-- The values of one filter entry (R76). -/
def filterValues (e : FilterEntry) : List Nat := [e.enable.toNat, e.low, e.high, e.car.toNat, e.dest.code]

theorem queueValues_ofValues {d c t n : Nat} (hc : c ≤ 15) (hn : n ≤ 1) : queueValues (QueueSetting.ofValues [d, c, t, n]) = [d, c, t, n] := by
  simp only [QueueSetting.ofValues, queueValues, toNat_code_le hc, toNat_flag hn]

/-- A list whose length is known begins with as many elements. -/
theorem exists_four {α : Type} {xs : List α} {n : Nat} (h : xs.length = n + 4) :
    ∃ a b c d rest, xs = a :: b :: c :: d :: rest ∧ rest.length = n := by
  match xs, h with
  | a :: b :: c :: d :: rest, h => exact ⟨a, b, c, d, rest, rfl, by simpa using h⟩

theorem width_filter_shift (k : Nat) : Group.filter.width (k + 5) = Group.filter.width k := by
  simp [Group.width]

theorem values_filterOfValues (n : Nat) {vs : List Nat} (hlen : vs.length = 5 * n)
    (hallows : ∀ k v, vs[k]? = some v → Group.filter.allows k v) (hfits : ∀ k v, vs[k]? = some v → v < 256 ^ Group.filter.width k) :
    (filterOfValues vs).flatMap filterValues = vs ∧ (filterOfValues vs).length = n := by
  induction n generalizing vs with
  | zero =>
    obtain rfl := List.length_eq_zero_iff.mp hlen
    exact ⟨rfl, rfl⟩
  | succ n ih =>
    match vs, hlen with
    | e :: l :: h :: c :: d :: rest, hlen =>
      have hrest : rest.length = 5 * n := by
        simp only [List.length_cons] at hlen
        omega
      have hshift (k : Nat) : (k + 5) % 5 = k % 5 := Nat.add_mod_right k 5
      obtain ⟨hvalues, hcount⟩ := ih hrest
        (fun k v hv => by
          have hnext := hallows (k + 5) v hv
          simp only [Group.allows, hshift] at hnext ⊢
          exact hnext)
        (fun k v hv => width_filter_shift k ▸ hfits (k + 5) v hv)
      have he : e ≤ 1 := hallows 0 e rfl
      have hd : d ≤ 5 := hallows 4 d rfl
      have hc : c < 2 ^ 24 := hfits 3 c rfl
      refine ⟨?_, by rw [filterOfValues, List.length_cons, hcount]⟩
      rw [filterOfValues, List.flatMap_cons, hvalues]
      simp only [filterValues, toNat_flag he, dest_code hd, BitVec.toNat_ofNat, Nat.mod_eq_of_lt hc]
      rfl

/-- An image holds the values that have been put into it. -/
theorem values_withValues (i : Settings) {g : Group} {vs : List Nat} (h : Allowed g vs) : (i.withValues g vs).values g = vs := by
  obtain ⟨hlen, hallows, hfits⟩ := h
  cases g with
  | node =>
    match vs, hlen with
    | [n, c, u, d, p, a], _ =>
      have hn : n ≤ 254 := hallows 0 n rfl
      have hc : c ≤ 15 := hallows 1 c rfl
      have hu : u ≤ 254 := hallows 2 u rfl
      have hd : d ≤ 254 := hallows 3 d rfl
      have hp : p ≤ 2 := hallows 4 p rfl
      have ha : a ≤ 1 := hallows 5 a rfl
      simp only [Settings.withValues, Settings.values, toNat_byteOf_le (show n ≤ 255 by omega), toNat_byteOf_le (show c ≤ 255 by omega),
        toNat_byteOf_le (show u ≤ 255 by omega), toNat_byteOf_le (show d ≤ 255 by omega), portal_code hp, toNat_flag ha]
  | round =>
    match vs, hlen with
    | [p, g1, g2, j, pd, m], _ =>
      have hpd : pd ≤ 15 := (hallows 4 pd rfl).2
      have hm : m ≤ 1 := hallows 5 m rfl
      simp only [Settings.withValues, Settings.values, toNat_code_le hpd, mode_code hm]
  | roster =>
    match vs, hlen with
    | [a, c, m, g], _ =>
      have ha : a ≤ 1 := hallows 0 a rfl
      simp only [Settings.withValues, Settings.values, admission_code ha]
  | link =>
    match vs, hlen with
    | [d, p, r, x, l], _ => rfl
  | handover =>
    match vs, hlen with
    | [e, o, m, a], _ =>
      have he : e ≤ 1 := hallows 0 e rfl
      simp only [Settings.withValues, Settings.values, toNat_flag he]
  | downlink =>
    match vs, hlen with
    | [r, p], _ => rfl
  | queues =>
    obtain ⟨d0, c0, t0, n0, vs1, rfl, hlen1⟩ := exists_four (n := 14) hlen
    obtain ⟨d1, c1, t1, n1, vs2, rfl, hlen2⟩ := exists_four (n := 10) hlen1
    obtain ⟨d2, c2, t2, n2, vs3, rfl, hlen3⟩ := exists_four (n := 6) hlen2
    obtain ⟨d3, c3, t3, n3, vs4, rfl, hlen4⟩ := exists_four (n := 2) hlen3
    match vs4, hlen4 with
    | [x, y], _ =>
      have hq0 := queueValues_ofValues (d := d0) (t := t0) (hallows 1 c0 rfl).2 (hallows 3 n0 rfl)
      have hq1 := queueValues_ofValues (d := d1) (t := t1) (hallows 5 c1 rfl).2 (hallows 7 n1 rfl)
      have hq2 := queueValues_ofValues (d := d2) (t := t2) (hallows 9 c2 rfl).2 (hallows 11 n2 rfl)
      have hq3 := queueValues_ofValues (d := d3) (t := t3) (hallows 13 c3 rfl).2 (hallows 15 n3 rfl)
      have hx : (queueOf x).val = x := queueOf_val (hallows 16 x rfl)
      have hy : (queueOf y).val = y := queueOf_val (hallows 17 y rfl)
      have hall : (Settings.withValues i .queues [d0, c0, t0, n0, d1, c1, t1, n1, d2, c2, t2, n2, d3, c3, t3, n3, x, y]).values .queues =
          queueValues (QueueSetting.ofValues [d0, c0, t0, n0]) ++ (queueValues (QueueSetting.ofValues [d1, c1, t1, n1]) ++
            (queueValues (QueueSetting.ofValues [d2, c2, t2, n2]) ++ (queueValues (QueueSetting.ofValues [d3, c3, t3, n3]) ++
              [(queueOf x).val, (queueOf y).val]))) := rfl
      rw [hall, hq0, hq1, hq2, hq3, hx, hy]
      rfl
  | filter => exact (values_filterOfValues 16 hlen hallows hfits).1
  | pattern =>
    match vs, hlen with
    | k :: n :: b :: m :: bytes, hlen =>
      have hk : k ≤ 1 := hallows 0 k rfl
      have hbytes : (bytes.map byteOf).map BitVec.toNat = bytes := by
        rw [List.map_map]
        refine (List.map_congr_left fun v hv => ?_).trans (List.map_id bytes)
        obtain ⟨j, hj⟩ := List.getElem?_of_mem hv
        have hv255 : v ≤ 255 := hallows (j + 4) v hj
        exact toNat_byteOf_le hv255
      simp only [Settings.withValues, Settings.values, pattern_code hk, hbytes]
      rfl

/-- What putting values into one group leaves of all the others. -/
structure GroupsKept (g : Group) (new old : Settings) : Prop extends OthersKept g new old where
  link : g ≠ .link → new.link = old.link
  handover : g ≠ .handover → new.handover = old.handover
  downlink : g ≠ .downlink → new.downlink = old.downlink
  filter : g ≠ .filter → new.filter = old.filter
  pattern : g ≠ .pattern → new.pattern = old.pattern

theorem groupsKept_withValues (i : Settings) (g : Group) (vs : List Nat) : GroupsKept g (i.withValues g vs) i := by
  unfold Settings.withValues
  split <;> exact ⟨⟨by simp, by simp, by simp, by simp⟩, by simp, by simp, by simp, by simp, by simp⟩

theorem values_withValues_other (i : Settings) {g h : Group} (hne : h ≠ g) (vs : List Nat) : (i.withValues g vs).values h = i.values h := by
  have hkept := groupsKept_withValues i g vs
  cases h with
  | node => rw [Settings.values, hkept.node hne.symm, Settings.values]
  | round => rw [Settings.values, hkept.round hne.symm, Settings.values]
  | roster => rw [Settings.values, hkept.roster hne.symm, Settings.values]
  | link => rw [Settings.values, hkept.link hne.symm, Settings.values]
  | handover => rw [Settings.values, hkept.handover hne.symm, Settings.values]
  | downlink => rw [Settings.values, hkept.downlink hne.symm, Settings.values]
  | queues => rw [Settings.values, hkept.queues hne.symm, Settings.values]
  | filter => rw [Settings.values, hkept.filter hne.symm, Settings.values]
  | pattern => rw [Settings.values, hkept.pattern hne.symm, Settings.values]

/-- The values read from bytes that lie in their ranges are values that the group allows. -/
theorem allowed_splitFields {g : Group} {bytes : List Byte} (h : firstBadField g.fields (splitFields g.fields bytes) = none) :
    Allowed g (splitFields g.fields bytes) where
  length := (length_splitFields g.fields bytes).trans (length_fields g)
  allows := (firstBadField_none_iff ((length_splitFields g.fields bytes).trans (length_fields g))).mp h
  fits := fun k v hv => by
    have hk : k < g.fields.length := by
      rw [← length_splitFields g.fields bytes]
      exact (List.getElem?_eq_some_iff.mp hv).1
    have hfield := List.getElem?_eq_getElem hk
    exact width_field hfield ▸ splitFields_lt hfield hv

end Sys2Proof.Proofs
end

section
/-!
PROOFS. SET by its table (R171, R172, R78, R101).
-/
namespace Sys2Proof.Proofs
open Sys2Proof.Machine

section
variable {s : State} {i : Settings}

/-! ### When a group may change (R171) -/

theorem inHandover_iff {x : EntryState} : x.inHandover = true ↔ x = .offering ∨ x = .moving ∨ x = .arriving := by
  cases x <;> simp [EntryState.inHandover]

theorem mayChange_iff (g : Group) (s : State) : s.mayChange g = true ↔
    (g = .node → s.engine.state = .stopped ∧ ∀ i : Index,
      (s.entry i).state ≠ .offering ∧ (s.entry i).state ≠ .moving ∧ (s.entry i).state ≠ .arriving) ∧
    (g = .round ∨ g = .queues → s.engine.state = .stopped) := by
  cases g with
  | node => simp [State.mayChange, inHandover_iff, indices]
  | _ => simp [State.mayChange]

/-! ### The conditions that span fields (R171) -/

theorem crossFailure_node (i : Settings) : i.crossFailure .node =
    if i.node.upNeighbour = i.node.downNeighbour ∧ i.node.upNeighbour ≠ 0 then some 3
    else if i.node.node ≠ 0 ∧ i.node.upNeighbour = i.node.node then some 2
    else if i.node.node ≠ 0 ∧ i.node.downNeighbour = i.node.node then some 3
    else none := rfl

theorem filterCross_none {es : List FilterEntry} (h : ∀ e ∈ es, e.low ≤ e.high) (k : Nat) : filterCross k es = none := by
  induction es generalizing k with
  | nil => rfl
  | cons e es ih =>
    rw [filterCross, if_neg (Nat.not_lt.mpr (h e (List.mem_cons_self ..))), ih fun x hx => h x (List.mem_cons_of_mem _ hx)]

theorem filterCross_first {pre post : List FilterEntry} {e : FilterEntry} (h : ∀ x ∈ pre, x.low ≤ x.high) (he : e.high < e.low) (k : Nat) :
    filterCross k (pre ++ e :: post) = some (5 * (k + pre.length) + 2) := by
  induction pre generalizing k with
  | nil => exact if_pos he
  | cons x pre ih =>
    rw [List.cons_append, filterCross, if_neg (Nat.not_lt.mpr (h x (List.mem_cons_self ..))),
      ih (fun y hy => h y (List.mem_cons_of_mem _ hy)), List.length_cons]
    congr 2
    omega

theorem budget_eq (q : QueuesGroup) : q.budget =
    ((List.finRange 4).map fun k => q.queue[k.val].depth * (16 + codeBytes q.queue[k.val].storage)).sum := by
  have hqueues : q.queue.toList = (List.finRange 4).map fun k => q.queue[k.val] :=
    List.ext_getElem (by simp) fun n h₁ h₂ => by simp
  rw [QueuesGroup.budget, hqueues, List.map_map]
  rfl

/-! ### The table (R172) -/

section
variable {g : Group} {fields : List Byte}

theorem decideSetGroup_state (h : s.mayChange g = false) : decideSetGroup g fields s = .refuse .badState := if_pos h

variable (hmay : s.mayChange g = true)
include hmay

theorem decideSetGroup_field {k : Nat} (h : firstBadField g.fields (splitFields g.fields fields) = some k) :
    decideSetGroup g fields s = .badField k := by
  simp only [decideSetGroup, hmay, h, Bool.true_eq_false, if_false]

variable (hfields : firstBadField g.fields (splitFields g.fields fields) = none)
include hfields

theorem decideSetGroup_cross {k : Nat} (h : (s.image.withValues g (splitFields g.fields fields)).crossFailure g = some k) :
    decideSetGroup g fields s = .badField k := by
  simp only [decideSetGroup, hmay, hfields, h, Bool.true_eq_false, if_false]

theorem decideSetGroup_spans (h : (s.image.withValues g (splitFields g.fields fields)).crossFailure g = none) :
    decideSetGroup g fields s =
      if g = .round ∧ (s.image.withValues g (splitFields g.fields fields)).round.period <
          s.airtimeWith (s.image.withValues g (splitFields g.fields fields)).round then .refuse .noAirtime
      else if g = .queues ∧ recordStoreBytes < (s.image.withValues g (splitFields g.fields fields)).queues.budget then .refuse .noRoom
      else .accept (applySet g (s.image.withValues g (splitFields g.fields fields))) := by
  simp only [decideSetGroup, hmay, hfields, h, Bool.true_eq_false, if_false]

end

theorem decideSet_of {group : Byte} {g : Group} (h : Group.ofCode group.toNat = some g) (fields : List Byte) (s : State) :
    decideSet group fields s = decideSetGroup g fields s := by
  simp only [decideSet, h]

theorem decideSet_none {group : Byte} (h : Group.ofCode group.toNat = none) (fields : List Byte) (s : State) :
    decideSet group fields s = .badField 0 := by
  simp only [decideSet, h]

/-! ### What an accepted SET does -/

theorem applySet_plain {g : Group} (hround : g ≠ .round) (hqueues : g ≠ .queues)
    (h : g ≠ .node ∨ i.node.upNeighbour ≠ 0 ∨ i.node.downNeighbour ≠ 0) (s : State) :
    applySet g i s = { s with image := i, unapplied := s.unapplied.mark g } := by
  cases g with
  | node =>
    have hnbr := h.resolve_left (not_not.mpr rfl)
    refine (settleCandidates_eq i _ s).trans ?_
    rw [if_neg]
    rintro ⟨hup, hdown⟩
    exact hnbr.elim (absurd hup) (absurd hdown)
  | round => exact absurd rfl hround
  | queues => exact absurd rfl hqueues
  | _ => rfl

theorem applySet_alone (hup : i.node.upNeighbour = 0) (hdown : i.node.downNeighbour = 0) (s : State) :
    applySet .node i s = { s.mapEntries Entry.forgetCandidate with image := i } := by
  refine (settleCandidates_eq i _ s).trans ?_
  rw [if_pos ⟨hup, hdown⟩]
  rfl

end

/-- Settles O25: the tests by the tables of R171, then the first line of R172 that applies. -/
theorem setDecidedByTable : Obligations.SetDecidedByTable := by
  refine ⟨mayChange_iff, fun g => ⟨length_fields g, fun k f hf => width_field hf, fun bytes =>
    (length_splitFields g.fields bytes).trans (length_fields g)⟩,
    fun g vs hlen => ⟨firstBadField_none_iff hlen, firstBadField_some_iff hlen⟩,
    fun g bytes i h => ⟨values_withValues i (allowed_splitFields h), fun h hne => values_withValues_other i hne _⟩, ?_, fun r s => rfl, ?_⟩
  · intro i n
    refine ⟨fun hsame hsome => if_pos ⟨hsame, hsome⟩, fun hne hn hup => ?_, fun hne hn hdown => ?_, fun hnbr hown => ?_, fun h => if_pos h,
      fun h => if_neg (Nat.not_lt.mpr h), fun h => filterCross_none h 0, fun pre e post hfilter hpre he => ?_, fun g hn hl hf => ?_,
      budget_eq i.queues⟩
    · exact (crossFailure_node i).trans ((if_neg fun h => hne h.1).trans (if_pos ⟨hn, hup⟩))
    · have hapart : i.node.upNeighbour ≠ i.node.node := fun hup => hne (hup.trans hdown.symm)
      exact (crossFailure_node i).trans ((if_neg fun h => hne h.1).trans ((if_neg fun h => hapart h.2).trans (if_pos ⟨hn, hdown⟩)))
    · have hup : ¬ (i.node.node ≠ 0 ∧ i.node.upNeighbour = i.node.node) := fun h => hown.elim h.1 fun hown => hown.1 h.2
      have hdown : ¬ (i.node.node ≠ 0 ∧ i.node.downNeighbour = i.node.node) := fun h => hown.elim h.1 fun hown => hown.2 h.2
      have hnbrs : ¬ (i.node.upNeighbour = i.node.downNeighbour ∧ i.node.upNeighbour ≠ 0) := fun h => hnbr.elim (absurd h.1) h.2
      rw [crossFailure_node, if_neg hnbrs, if_neg hup, if_neg hdown]
    · have hfirst := filterCross_first (post := post) hpre he 0
      rw [Nat.zero_add, ← hfilter] at hfirst
      exact hfirst
    · cases g with
      | node => exact absurd rfl hn
      | link => exact absurd rfl hl
      | filter => exact absurd rfl hf
      | _ => rfl
  · intro tag group fields s hs c
    refine ⟨fun hnone => onRequest_answer hs (decideSet_none hnone fields s), ?_⟩
    intro g hg vs i
    have hdecide := decideSet_of hg fields s
    refine ⟨fun hmay => onRequest_refuse hs (hdecide.trans (decideSetGroup_state hmay)),
      fun hmay k hk => onRequest_answer hs (hdecide.trans (decideSetGroup_field hmay hk)),
      fun hmay hfields k hk => onRequest_answer hs (hdecide.trans (decideSetGroup_cross hmay hfields hk)),
      fun hmay hfields hcross hround hlt => onRequest_refuse hs (hdecide.trans ((decideSetGroup_spans hmay hfields hcross).trans
        (if_pos ⟨hround, hlt⟩))), fun hmay hfields hcross hqueues hlt => ?_, fun hmay hfields hcross hround hqueues => ?_⟩
    · have hround : g ≠ .round := by rw [hqueues]; decide
      exact onRequest_refuse hs (hdecide.trans ((decideSetGroup_spans hmay hfields hcross).trans
        ((if_neg fun h => hround h.1).trans (if_pos ⟨hqueues, hlt⟩))))
    · have hnext : exec c s = .next (applySet g i (s.answered c .ok [])) :=
        onRequest_accept hs (hdecide.trans ((decideSetGroup_spans hmay hfields hcross).trans
          ((if_neg fun h => hround h.1).trans (if_neg fun h => hqueues h.1))))
      refine ⟨fun h => hnext.trans (congrArg _ (applySet_plain hround hqueues h _)), fun hnode hup hdown => ?_⟩
      subst hnode
      rw [applySet_alone hup hdown] at hnext
      exact ⟨_, hnext, rfl, fun x => entry_mapEntries _ _ x⟩

/-! ### SET of ROUND and of QUEUES (R78, R101) -/

section
variable {i : Settings}

theorem crossFailure_round (i : Settings) : i.crossFailure .round = none := rfl

theorem crossFailure_queues (i : Settings) : i.crossFailure .queues = none := rfl

theorem exec_set_accepted {tag group : Byte} {fields : List Byte} {s : State} {g : Group} (hs : s.Takes (.set tag group fields))
    (hg : Group.ofCode group.toNat = some g) (hmay : s.mayChange g = true)
    (hfields : firstBadField g.fields (splitFields g.fields fields) = none)
    (hcross : (s.image.withValues g (splitFields g.fields fields)).crossFailure g = none)
    (hround : ¬ (g = .round ∧ (s.image.withValues g (splitFields g.fields fields)).round.period <
      s.airtimeWith (s.image.withValues g (splitFields g.fields fields)).round))
    (hqueues : ¬ (g = .queues ∧ recordStoreBytes < (s.image.withValues g (splitFields g.fields fields)).queues.budget)) :
    exec (.set tag group fields) s = .next (applySet g (s.image.withValues g (splitFields g.fields fields))
      (s.answered (.set tag group fields) .ok [])) :=
  onRequest_accept hs ((decideSet_of hg fields s).trans ((decideSetGroup_spans hmay hfields hcross).trans
    ((if_neg hround).trans (if_neg hqueues))))

/-- The entries and notices of a SET of ROUND that lowers Pd (R101). -/
theorem edited_applySet_round {s : State} (h : codeBytes i.round.pd < codeBytes s.image.round.pd) : Edited indices
    (fun x => { s.entry x with commands := (s.entry x).commands.filter fun k => decide (k.payload.length ≤ codeBytes i.round.pd) })
    (fun x => ((s.entry x).commands.filter fun k => decide (codeBytes i.round.pd < k.payload.length)).map fun k =>
      .undelivered k.number (s.entry x).car .tooLong k.sent) { s with image := i } (applySet .round i s) := by
  have happly : applySet .round i s = forEach (dropLong (codeBytes i.round.pd)) { s with image := i } := if_pos h
  rw [happly]
  exact edited_foldl (List.nodup_finRange 24) _ fun x _ t ht => by
    rw [dropLong, ht]
    rfl

theorem applySet_round_keep {s : State} (h : ¬ codeBytes i.round.pd < codeBytes s.image.round.pd) :
    applySet .round i s = { s with image := i } := if_neg h

theorem applySet_queues (i : Settings) (s : State) : ∃ r : Vector RxQueue 4,
    applySet .queues i s = { s with image := i, queues := r } ∧
      ∀ q : Fin 4, r[q.val] = (s.rx q).reconfigure (s.queueSetting q) i.queues.queue[q.val] :=
  reconfigureQueues_eq s.image.queues { s with image := i, unapplied := s.unapplied.mark .queues }

end

/-- Settles O26: ROUND drops the commands its new Pd cannot carry, QUEUES reshapes the receive queues. -/
theorem setOfRoundAndQueues : Obligations.SetOfRoundAndQueues := by
  intro tag fields s hstopped
  have hmay (g : Group) (hg : g = .round ∨ g = .queues) : s.mayChange g = true :=
    (mayChange_iff g s).mpr ⟨fun h => absurd h (by rcases hg with rfl | rfl <;> decide), fun _ => hstopped⟩
  refine ⟨?_, ?_⟩
  · intro hs hfields i hfit
    have hexec := exec_set_accepted (g := .round) hs rfl (hmay .round (.inl rfl)) hfields (crossFailure_round _)
      (fun h => Nat.not_lt.mpr hfit h.2) (fun h => by cases h.1)
    by_cases hlower : codeBytes i.round.pd < codeBytes s.image.round.pd
    · obtain ⟨hframe, hentry, hcontrol⟩ := edited_applySet_round (s := s.answered (.set tag 1 fields) .ok []) hlower
      rw [EditsOnly] at hframe
      simp only [if_pos hlower]
      refine ⟨_, hexec, ?_, ?_, ?_, ?_, ?_, ?_, hcontrol.trans (control_notifyAll_congr _ rfl),
        fun x => (hentry x).trans (if_pos (List.mem_finRange x))⟩
      · exact (congrArg State.image hframe).trans rfl
      · exact (congrArg State.unapplied hframe).trans rfl
      · exact (congrArg State.live hframe).trans rfl
      · exact (congrArg State.order hframe).trans rfl
      · exact (congrArg State.engine hframe).trans rfl
      · exact (congrArg State.queues hframe).trans rfl
    · simp only [if_neg hlower]
      exact ⟨_, hexec.trans (congrArg _ (applySet_round_keep (s := s.answered (.set tag 1 fields) .ok []) hlower)),
        rfl, rfl, rfl, rfl, rfl, rfl, rfl, fun _ => rfl⟩
  · intro hs hfields i hbudget
    have hexec := exec_set_accepted (g := .queues) hs rfl (hmay .queues (.inr rfl)) hfields (crossFailure_queues _)
      (fun h => by cases h.1) (fun h => Nat.not_lt.mpr hbudget h.2)
    obtain ⟨r, hr, hq⟩ := applySet_queues i (s.answered (.set tag 6 fields) .ok [])
    refine ⟨_, hexec.trans (congrArg _ hr), rfl, rfl, rfl, rfl, fun q => (hq q).trans ?_⟩
    rfl

end Sys2Proof.Proofs
end

section
/-!
PROOFS. The image that the field values of all nine groups make, and the bytes of a page (R171, R174).
-/
namespace Sys2Proof.Proofs
open Sys2Proof.Machine

/-! ### An image is what its values say -/

theorem portal_code_injective : Function.Injective PortalDirection.code :=
  Function.LeftInverse.injective (g := PortalDirection.ofCode) fun d => by cases d <;> rfl

theorem mode_code_injective : Function.Injective RoundMode.code :=
  Function.LeftInverse.injective (g := RoundMode.ofCode) fun m => by cases m <;> rfl

theorem admission_code_injective : Function.Injective Admission.code :=
  Function.LeftInverse.injective (g := Admission.ofCode) fun a => by cases a <;> rfl

theorem pattern_code_injective : Function.Injective PatternKind.code :=
  Function.LeftInverse.injective (g := PatternKind.ofCode) fun k => by cases k <;> rfl

theorem dest_code_injective : Function.Injective Destination.code :=
  Function.LeftInverse.injective (g := Destination.ofCode) fun d => by
    cases d with
    | queue q => fin_cases q <;> rfl
    | passAlong => rfl
    | discard => rfl

theorem flag_injective : Function.Injective Bool.toNat :=
  Function.LeftInverse.injective (g := (· == 1)) fun b => by cases b <;> rfl

theorem word_injective {n : Nat} : Function.Injective (BitVec.toNat (w := n)) := fun _ _ => BitVec.eq_of_toNat_eq

theorem queueValues_injective : Function.Injective queueValues := by
  rintro ⟨d, c, t, n⟩ ⟨d', c', t', n'⟩ h
  simp only [queueValues, List.cons.injEq, word_injective.eq_iff, flag_injective.eq_iff, and_true] at h
  obtain ⟨rfl, rfl, rfl, rfl⟩ := h
  rfl

theorem filterValues_injective : Function.Injective filterValues := by
  rintro ⟨e, l, h, c, d⟩ ⟨e', l', h', c', d'⟩ heq
  simp only [filterValues, List.cons.injEq, word_injective.eq_iff, flag_injective.eq_iff, dest_code_injective.eq_iff, and_true] at heq
  obtain ⟨rfl, rfl, rfl, rfl, rfl⟩ := heq
  rfl

/-- Pieces of one length, put end to end, say what the pieces were. -/
theorem flatMap_injective {α β : Type} {f : α → List β} {n : Nat} (hn : 0 < n) (hlen : ∀ a, (f a).length = n)
    (hinj : Function.Injective f) {xs ys : List α} (h : xs.flatMap f = ys.flatMap f) : xs = ys := by
  have hnil (y : α) (ys : List α) : [] ≠ (y :: ys).flatMap f := by
    intro h
    have hpos := hlen y
    rw [List.flatMap_cons] at h
    rw [(List.append_eq_nil_iff.mp h.symm).1, List.length_nil] at hpos
    omega
  induction xs generalizing ys with
  | nil =>
    cases ys with
    | nil => rfl
    | cons y ys => exact absurd h (hnil y ys)
  | cons x xs ih =>
    cases ys with
    | nil => exact absurd h.symm (hnil x xs)
    | cons y ys =>
      obtain ⟨hfirst, hrest⟩ := List.append_inj h ((hlen x).trans (hlen y).symm)
      rw [hinj hfirst, ih hrest]

section
variable {i j : Settings}

theorem node_of_values (h : i.values .node = j.values .node) : i.node = j.node := by
  obtain ⟨⟨n, c, u, d, p, a⟩, _⟩ := i
  obtain ⟨⟨n', c', u', d', p', a'⟩, _⟩ := j
  simp only [Settings.values, List.cons.injEq, word_injective.eq_iff, portal_code_injective.eq_iff, flag_injective.eq_iff, and_true] at h
  simp only [h]

theorem round_of_values (h : i.values .round = j.values .round) : i.round = j.round := by
  obtain ⟨_, ⟨p, g1, g2, s, pd, m⟩, _⟩ := i
  obtain ⟨_, ⟨p', g1', g2', s', pd', m'⟩, _⟩ := j
  simp only [Settings.values, List.cons.injEq, word_injective.eq_iff, mode_code_injective.eq_iff, and_true] at h
  simp only [h]

theorem roster_of_values (h : i.values .roster = j.values .roster) : i.roster = j.roster := by
  obtain ⟨_, _, ⟨a, c, m, g⟩, _⟩ := i
  obtain ⟨_, _, ⟨a', c', m', g'⟩, _⟩ := j
  simp only [Settings.values, List.cons.injEq, admission_code_injective.eq_iff, and_true] at h
  simp only [h]

theorem link_of_values (h : i.values .link = j.values .link) : i.link = j.link := by
  obtain ⟨_, _, _, ⟨d, p, r, y, l⟩, _⟩ := i
  obtain ⟨_, _, _, ⟨d', p', r', y', l'⟩, _⟩ := j
  simp only [Settings.values, List.cons.injEq, and_true] at h
  simp only [h]

theorem handover_of_values (h : i.values .handover = j.values .handover) : i.handover = j.handover := by
  obtain ⟨_, _, _, _, ⟨e, o, m, a⟩, _⟩ := i
  obtain ⟨_, _, _, _, ⟨e', o', m', a'⟩, _⟩ := j
  simp only [Settings.values, List.cons.injEq, flag_injective.eq_iff, and_true] at h
  simp only [h]

theorem downlink_of_values (h : i.values .downlink = j.values .downlink) : i.downlink = j.downlink := by
  obtain ⟨_, _, _, _, _, ⟨r, p⟩, _⟩ := i
  obtain ⟨_, _, _, _, _, ⟨r', p'⟩, _⟩ := j
  simp only [Settings.values, List.cons.injEq, and_true] at h
  simp only [h]

theorem queues_of_values (h : i.values .queues = j.values .queues) : i.queues = j.queues := by
  obtain ⟨_, _, _, _, _, _, ⟨q, v, p⟩, _⟩ := i
  obtain ⟨_, _, _, _, _, _, ⟨q', v', p'⟩, _⟩ := j
  obtain ⟨hqueues, hlast⟩ := List.append_inj' h rfl
  simp only [List.cons.injEq, Fin.val_inj, and_true] at hlast
  obtain ⟨rfl, rfl⟩ := hlast
  have hq : q = q' := Vector.toList_inj.mp
    (flatMap_injective (f := queueValues) (n := 4) (by decide) (fun _ => rfl) queueValues_injective hqueues)
  rw [hq]

theorem filter_of_values (h : i.values .filter = j.values .filter) : i.filter = j.filter :=
  flatMap_injective (f := filterValues) (n := 5) (by decide) (fun _ => rfl) filterValues_injective h

theorem pattern_of_values (h : i.values .pattern = j.values .pattern) : i.pattern = j.pattern := by
  obtain ⟨_, _, _, _, _, _, _, _, ⟨k, b, z, l, bs⟩⟩ := i
  obtain ⟨_, _, _, _, _, _, _, _, ⟨k', b', z', l', bs'⟩⟩ := j
  simp only [Settings.values, List.cons_append, List.nil_append, List.cons.injEq, pattern_code_injective.eq_iff] at h
  obtain ⟨rfl, rfl, rfl, rfl, hbytes⟩ := h
  rw [List.map_injective_iff.mpr word_injective hbytes]

/-- Two images with the same values in every group are the same image. -/
theorem eq_of_values (h : ∀ g, i.values g = j.values g) : i = j := by
  have hnode := node_of_values (h .node)
  have hround := round_of_values (h .round)
  have hroster := roster_of_values (h .roster)
  have hlink := link_of_values (h .link)
  have hhandover := handover_of_values (h .handover)
  have hdownlink := downlink_of_values (h .downlink)
  have hqueues := queues_of_values (h .queues)
  have hfilter := filter_of_values (h .filter)
  have hpattern := pattern_of_values (h .pattern)
  cases i
  cases j
  simp only at hnode hround hroster hlink hhandover hdownlink hqueues hfilter hpattern
  subst hnode hround hroster hlink hhandover hdownlink hqueues hfilter hpattern
  rfl

end

/-! ### The image of all nine groups (R174) -/

theorem mem_all (g : Group) : g ∈ Group.all := by cases g <;> decide

theorem values_foldl_withValues_other {ps : List (Group × List Nat)} {g : Group} (hg : g ∉ ps.map Prod.fst) (i : Settings) :
    (ps.foldl (fun j p => j.withValues p.1 p.2) i).values g = i.values g := by
  induction ps generalizing i with
  | nil => rfl
  | cons p ps ih =>
    rw [List.map_cons, List.mem_cons, not_or] at hg
    exact (ih hg.2 _).trans (values_withValues_other i hg.1 p.2)

theorem values_foldl_withValues {ps : List (Group × List Nat)} (hnodup : (ps.map Prod.fst).Nodup) (hallowed : ∀ p ∈ ps, Allowed p.1 p.2)
    (i : Settings) : ∀ p ∈ ps, (ps.foldl (fun j p => j.withValues p.1 p.2) i).values p.1 = p.2 := by
  induction ps generalizing i with
  | nil => nofun
  | cons q ps ih =>
    rw [List.map_cons, List.nodup_cons] at hnodup
    intro p hp
    rcases List.mem_cons.mp hp with rfl | hp
    · exact (values_foldl_withValues_other hnodup.1 _).trans (values_withValues i (hallowed p List.mem_cons_self))
    · exact ih hnodup.2 (fun p hp => hallowed p (List.mem_cons_of_mem _ hp)) _ p hp

/-- The image that allowed values of all groups make holds those values. -/
theorem values_ofGroups {ps : List (Group × List Nat)} (hall : ps.map Prod.fst = Group.all) (hallowed : ∀ p ∈ ps, Allowed p.1 p.2) :
    ∀ p ∈ ps, (Settings.ofGroups ps).values p.1 = p.2 :=
  values_foldl_withValues (by rw [hall]; decide) hallowed Settings.default

/-! ### The bytes of all nine groups -/

theorem map_fst_splitGroups (gs : List Group) (bs : List Byte) : (splitGroups gs bs).map Prod.fst = gs := by
  induction gs generalizing bs with
  | nil => rfl
  | cons g gs ih => rw [splitGroups, List.map_cons, ih]

theorem splitGroups_fields {gs : List Group} {bs : List Byte} {p : Group × List Nat} (hp : p ∈ splitGroups gs bs) :
    ∃ bytes, p.2 = splitFields p.1.fields bytes := by
  induction gs generalizing bs with
  | nil => cases hp
  | cons g gs ih =>
    rcases List.mem_cons.mp hp with rfl | hp
    · exact ⟨_, rfl⟩
    · exact ih hp

theorem joinGroups_splitGroups {gs : List Group} {bs : List Byte} (h : bs.length = (gs.map Group.size).sum) :
    ((splitGroups gs bs).flatMap fun p => joinFields p.1.fields p.2) = bs := by
  induction gs generalizing bs with
  | nil => exact (List.length_eq_zero_iff.mp h).symm
  | cons g gs ih =>
    rw [List.map_cons, List.sum_cons] at h
    have hfirst : (bs.take g.size).length = g.size := by rw [List.length_take]; omega
    have hrest : (bs.drop g.size).length = (gs.map Group.size).sum := by rw [List.length_drop]; omega
    rw [splitGroups, List.flatMap_cons, ih hrest, joinFields_splitFields hfirst, List.take_append_drop]

/-- Values of each group: one for each field and within its bytes. -/
structure Fitting (vs : Group → List Nat) : Prop where
  length : ∀ g, (vs g).length = g.count
  fits : ∀ g k v, (vs g)[k]? = some v → v < 256 ^ g.width k

section
variable {vs : Group → List Nat} (h : Fitting vs)
include h

theorem Fitting.length_join (g : Group) : (joinFields g.fields (vs g)).length = g.size :=
  length_joinFields ((h.length g).trans (length_fields g).symm)

theorem Fitting.split_join (g : Group) : splitFields g.fields (joinFields g.fields (vs g)) = vs g :=
  splitFields_joinFields ((h.length g).trans (length_fields g).symm) fun k f v hf hv => by
    rw [width_field hf]
    exact h.fits g k v hv

theorem Fitting.length_joinGroups (gs : List Group) :
    (gs.flatMap fun g => joinFields g.fields (vs g)).length = (gs.map Group.size).sum := by
  induction gs with
  | nil => rfl
  | cons g gs ih => rw [List.flatMap_cons, List.length_append, ih, h.length_join, List.map_cons, List.sum_cons]

theorem Fitting.splitGroups_joinGroups (gs : List Group) :
    splitGroups gs (gs.flatMap fun g => joinFields g.fields (vs g)) = gs.map fun g => (g, vs g) := by
  induction gs with
  | nil => rfl
  | cons g gs ih =>
    rw [List.flatMap_cons, splitGroups, List.take_left' (h.length_join g), List.drop_left' (h.length_join g), ih, h.split_join,
      List.map_cons]

end

end Sys2Proof.Proofs
end

section
/-!
PROOFS. The page: what loads, and what a SAVE leaves (R174 to R177).
-/
namespace Sys2Proof.Proofs
open Sys2Proof.Machine

/-! ### The values of a valid image -/

/-- A value in its range fits its bytes; the car number of a filter entry is the one field without a range. -/
theorem lt_of_allows {g : Group} {k v : Nat} (hcar : ¬ (g = .filter ∧ k % 5 = 3)) (h : g.allows k v) : v < 256 ^ g.width k := by
  cases g with
  | round =>
    have hwidth : Group.round.width k = if k < 3 then 2 else 1 := by simp [Group.width]
    rw [hwidth]
    simp only [Group.allows] at h
    split at h
    · exact Nat.lt_of_le_of_lt h.2 (by decide)
    · exact Nat.lt_of_le_of_lt h (by decide)
    · exact Nat.lt_of_le_of_lt h (by decide)
    · exact Nat.lt_of_le_of_lt h.2 (by decide)
    · exact Nat.lt_of_le_of_lt h.2 (by decide)
    · exact Nat.lt_of_le_of_lt h (by split <;> decide)
  | filter =>
    have hk : k % 5 ≠ 3 := fun hk => hcar ⟨rfl, hk⟩
    have hwidth : Group.filter.width k = 1 := by simp [Group.width, hk]
    rw [hwidth, pow_one]
    simp only [Group.allows] at h
    split at h
    case h_4 hcarField => exact absurd hcarField hk
    all_goals omega
  | queues =>
    have hwidth : Group.queues.width k = 1 := by simp [Group.width]
    rw [hwidth, pow_one]
    simp only [Group.allows] at h
    split at h
    · omega
    · split at h <;> omega
  | _ =>
    simp only [Group.allows, Group.width] at h ⊢
    split at h <;> simp <;> omega

theorem length_flatMap_filterValues (es : List FilterEntry) : (es.flatMap filterValues).length = 5 * es.length := by
  induction es with
  | nil => rfl
  | cons e es ih =>
    rw [List.flatMap_cons, List.length_append, ih, List.length_cons]
    exact (Nat.add_comm 5 _)

/-- The car number of a filter entry fits its 3 bytes. -/
theorem filter_car_lt {es : List FilterEntry} {k v : Nat} (hk : k % 5 = 3) (h : (es.flatMap filterValues)[k]? = some v) : v < 2 ^ 24 := by
  induction es generalizing k with
  | nil => cases h
  | cons e es ih =>
    by_cases hfirst : k < 5
    · obtain rfl : k = 3 := by omega
      obtain rfl := Option.some.inj h
      exact e.car.isLt
    · have hlater : 5 ≤ k := Nat.not_lt.mp hfirst
      rw [List.flatMap_cons, List.getElem?_append_right hlater] at h
      exact ih (k := k - 5) (by omega) h

section
variable {i : Settings}

theorem length_values (hfilter : i.filter.length = 16) (hpattern : i.pattern.bytes.length = 12) (g : Group) :
    (i.values g).length = g.count := by
  cases g with
  | filter => exact (length_flatMap_filterValues i.filter).trans (by rw [hfilter]; rfl)
  | pattern => simp [Settings.values, hpattern, Group.count]
  | queues => simp [Settings.values, Group.count]
  | _ => rfl

theorem Settings.Valid.fitting (h : i.Valid) : Fitting i.values where
  length := length_values h.filter h.pattern
  fits := fun g k v hv => by
    by_cases hcar : g = .filter ∧ k % 5 = 3
    · obtain ⟨rfl, hk⟩ := hcar
      have hwidth : Group.filter.width k = 3 := by simp [Group.width, hk]
      rw [hwidth]
      exact Nat.lt_of_lt_of_le (filter_car_lt hk hv) (by norm_num)
    · exact lt_of_allows hcar ((firstBadField_none_iff (length_values h.filter h.pattern g)).mp (h.fields g) k v hv)

end

/-! ### What loads (R177) -/

/-- The bytes of a page before its check word: the format number 1, then the image (R174). -/
def pageOf (body : List Byte) : List Byte := withCheck (halfBytes 1 ++ body)

/-- Every field of every group of an image's bytes lies in its range. -/
def FieldsRead (body : List Byte) : Prop :=
  ∀ p ∈ splitGroups Group.all body, firstBadField p.1.fields p.2 = none

/-- The image that an image's bytes read as. -/
def imageOf (body : List Byte) : Settings := Settings.ofGroups (splitGroups Group.all body)

theorem loadPage_eq_some_iff {page : List Byte} {i : Settings} : loadPage page = some i ↔
    page.length = imageSize + 4 ∧ checkMatches page = true ∧ leValue (page.take 2) = 1 ∧
      FieldsRead ((page.drop 2).take imageSize) ∧ (imageOf ((page.drop 2).take imageSize)).sound = true ∧
      imageOf ((page.drop 2).take imageSize) = i := by
  simp only [loadPage, Option.ite_none_right_eq_some, Option.some.injEq, List.all_eq_true, Option.isNone_iff_eq_none, and_assoc]
  rfl

/-- A page that loads is one with its check word, the format number 1 and an image of the right size. -/
theorem page_of_load {page : List Byte} {i : Settings} (h : loadPage page = some i) :
    ∃ body, body.length = imageSize ∧ page = pageOf body := by
  obtain ⟨hlen, hcheck, hformat, -⟩ := loadPage_eq_some_iff.mp h
  obtain ⟨-, hwith⟩ := checkMatches_iff.mp hcheck
  match page, hlen with
  | a :: b :: rest, hlen =>
    have hrest : rest.length = imageSize + 2 := by
      rw [List.length_cons, List.length_cons] at hlen
      omega
    refine ⟨rest.take imageSize, by rw [List.length_take]; omega, ?_⟩
    have htake : (a :: b :: rest).take ((a :: b :: rest).length - 2) = a :: b :: rest.take imageSize := by
      rw [hlen]
      rfl
    have hone : [a, b] = halfBytes 1 := by
      have hbytes := halfBytes_leValue a b
      rw [show leValue [a, b] = 1 from hformat] at hbytes
      exact hbytes.symm
    rw [htake] at hwith
    rw [← hwith, pageOf, ← hone]
    rfl

theorem loadPage_pageOf {body : List Byte} (hlen : body.length = imageSize) {i : Settings} :
    loadPage (pageOf body) = some i ↔ FieldsRead body ∧ (imageOf body).sound = true ∧ imageOf body = i := by
  have hbody : ((pageOf body).drop 2).take imageSize = body := List.take_left' hlen
  have hlength : (pageOf body).length = imageSize + 4 := by
    rw [pageOf, length_withCheck, List.length_append, hlen, halfBytes, length_leBytes]
    omega
  rw [loadPage_eq_some_iff, hbody]
  exact ⟨fun ⟨_, _, _, h⟩ => h, fun h => ⟨hlength, checkMatches_withCheck _, rfl, h⟩⟩

/-- Bytes that end in a word load only with the check word of those before it. -/
theorem checkWord_of_load {body : List Byte} {w : Half} {i : Settings} (h : loadPage (body ++ halfBytes w.toNat) = some i) :
    w = checkWord body := by
  obtain ⟨image, -, hpage⟩ := page_of_load h
  obtain ⟨hbody, hword⟩ := List.append_inj' hpage (by rw [halfBytes, halfBytes, length_leBytes, length_leBytes])
  rw [hbody, ← ofNat_halfBytes w, hword, ofNat_halfBytes]

theorem format_of_load {a b : Byte} {body : List Byte} {i : Settings} (h : loadPage (withCheck (a :: b :: body)) = some i) :
    [a, b] = [1, 0] := by
  obtain ⟨image, -, hpage⟩ := page_of_load h
  obtain ⟨hbody, -⟩ := List.append_inj' hpage (by rw [halfBytes, halfBytes, length_leBytes, length_leBytes])
  exact congrArg (List.take 2) hbody

/-! ### The image that bytes read as -/

theorem allowed_of_fieldsRead {body : List Byte} (h : FieldsRead body) : ∀ p ∈ splitGroups Group.all body, Allowed p.1 p.2 := by
  intro p hp
  have hgood := h p hp
  obtain ⟨bytes, hbytes⟩ := splitGroups_fields hp
  rw [hbytes] at hgood ⊢
  exact allowed_splitFields hgood

theorem values_imageOf {body : List Byte} (h : FieldsRead body) : ∀ p ∈ splitGroups Group.all body, (imageOf body).values p.1 = p.2 :=
  values_ofGroups (map_fst_splitGroups Group.all body) (allowed_of_fieldsRead h)

/-- Every group is one of those that the bytes were cut into. -/
theorem exists_split (body : List Byte) (g : Group) : ∃ vs, (g, vs) ∈ splitGroups Group.all body := by
  have hg : g ∈ (splitGroups Group.all body).map Prod.fst := by
    rw [map_fst_splitGroups]
    exact mem_all g
  obtain ⟨⟨g', vs⟩, hp, rfl⟩ := List.mem_map.mp hg
  exact ⟨vs, hp⟩

theorem valid_imageOf {body : List Byte} (h : FieldsRead body) (hsound : (imageOf body).sound = true) : (imageOf body).Valid := by
  have hallowed (g : Group) : firstBadField g.fields ((imageOf body).values g) = none ∧ ((imageOf body).values g).length = g.count := by
    obtain ⟨vs, hp⟩ := exists_split body g
    have hvalues : (imageOf body).values g = vs := values_imageOf h _ hp
    rw [hvalues]
    exact ⟨h _ hp, (allowed_of_fieldsRead h _ hp).length⟩
  refine ⟨fun g => (hallowed g).1, ?_, ?_, hsound⟩
  · have hlen : 5 * (imageOf body).filter.length = 80 := (length_flatMap_filterValues _).symm.trans (hallowed .filter).2
    omega
  · have hlen := (hallowed .pattern).2
    simp only [Settings.values, List.length_append, List.length_map, List.length_cons, List.length_nil, Group.count] at hlen
    omega

theorem imageBytes_imageOf {body : List Byte} (hlen : body.length = imageSize) (h : FieldsRead body) : (imageOf body).imageBytes = body := by
  calc (imageOf body).imageBytes
      = ((splitGroups Group.all body).map Prod.fst).flatMap (imageOf body).groupBytes := by rw [map_fst_splitGroups]; rfl
    _ = (splitGroups Group.all body).flatMap fun p => (imageOf body).groupBytes p.1 := List.flatMap_map ..
    _ = (splitGroups Group.all body).flatMap fun p => joinFields p.1.fields p.2 :=
      List.flatMap_congr fun p hp => by rw [Settings.groupBytes, values_imageOf h p hp]
    _ = body := joinGroups_splitGroups hlen

theorem Fitting.fieldsRead_iff {vs : Group → List Nat} (h : Fitting vs) :
    FieldsRead (Group.all.flatMap fun g => joinFields g.fields (vs g)) ↔ ∀ g k v, (vs g)[k]? = some v → g.allows k v := by
  rw [FieldsRead, h.splitGroups_joinGroups, List.forall_mem_map]
  exact ⟨fun hread g => (firstBadField_none_iff (h.length g)).mp (hread g (mem_all g)),
    fun hallows g _ => (firstBadField_none_iff (h.length g)).mpr (hallows g)⟩

/-- The image with given values is the one their bytes read as. -/
theorem Fitting.imageOf_eq {vs : Group → List Nat} (h : Fitting vs) (hallows : ∀ g k v, (vs g)[k]? = some v → g.allows k v)
    {i : Settings} (hi : ∀ g, i.values g = vs g) : imageOf (Group.all.flatMap fun g => joinFields g.fields (vs g)) = i := by
  refine eq_of_values fun g => ?_
  have hmem : (g, vs g) ∈ splitGroups Group.all (Group.all.flatMap fun g => joinFields g.fields (vs g)) := by
    rw [h.splitGroups_joinGroups]
    exact List.mem_map_of_mem (mem_all g)
  exact (values_imageOf (h.fieldsRead_iff.mpr hallows) _ hmem).trans (hi g).symm

theorem load_saved {i : Settings} (h : i.Valid) : loadPage i.pageBytes = some i := by
  have hfit := Settings.Valid.fitting h
  have hallows (g : Group) := (firstBadField_none_iff (hfit.length g)).mp (h.fields g)
  have himage := hfit.imageOf_eq hallows (i := i) fun _ => rfl
  refine (loadPage_pageOf (hfit.length_joinGroups Group.all)).mpr ⟨hfit.fieldsRead_iff.mpr hallows, ?_, himage⟩
  rw [himage]
  exact h.sound

theorem saved_of_load {page : List Byte} {i : Settings} (h : loadPage page = some i) : i.Valid ∧ page = i.pageBytes := by
  obtain ⟨body, hlen, rfl⟩ := page_of_load h
  obtain ⟨hread, hsound, rfl⟩ := (loadPage_pageOf hlen).mp h
  refine ⟨valid_imageOf hread hsound, ?_⟩
  rw [Settings.pageBytes, imageBytes_imageOf hlen hread]
  rfl

theorem sound_iff (i : Settings) : i.sound = true ↔
    (∀ g, i.crossFailure g = none) ∧ i.queues.budget ≤ 8192 ∧ i.round.fixedPart ≤ i.round.period := by
  simp only [Settings.sound, Bool.and_eq_true, List.all_eq_true, Option.isNone_iff_eq_none, decide_eq_true_eq, and_assoc]
  exact ⟨fun ⟨hcross, h⟩ => ⟨fun g => hcross g (mem_all g), h⟩, fun ⟨hcross, h⟩ => ⟨fun g _ => hcross g, h⟩⟩

/-! ### A SAVE that verifies (R175) -/

theorem programmed_verified {s : State} {pre rest : List Byte} {b : Byte}
    (hjob : s.store.job = some { copy := pre ++ b :: rest, erasing := false, offset := pre.length, failed := 0 }) :
    programmed b s =
      if pre.length + 1 < (pre ++ b :: rest).length then { s with store := { s.store with
        page := pre ++ [b], job := some { copy := pre ++ b :: rest, erasing := false, offset := pre.length + 1, failed := 0 } } }
      else notify .storeDone { s with store := { s.store with page := pre ++ [b], state := .valid, job := none } } := by
  simp [programmed, hjob]

/-- The bytes still to program, each verified at once, complete the page. -/
theorem foldl_programmed {pre rest : List Byte} (hrest : rest ≠ []) {s : State}
    (hjob : s.store.job = some { copy := pre ++ rest, erasing := false, offset := pre.length, failed := 0 }) :
    rest.foldl (fun t b => programmed b t) s =
      notify .storeDone { s with store := { s.store with page := pre ++ rest, state := .valid, job := none } } := by
  induction rest generalizing pre s with
  | nil => exact absurd rfl hrest
  | cons b rest ih =>
    rw [List.foldl_cons, programmed_verified hjob]
    cases rest with
    | nil => exact if_neg (by simp)
    | cons c rest =>
      rw [if_pos (by simp)]
      refine (ih (pre := pre ++ [b]) (List.cons_ne_nil c rest) ?_).trans ?_
      · simp
      · simp

/-- Settles O17: a page is the bytes of a valid image or does not load, and a SAVE leaves such a page. -/
theorem savedImageIsLoaded : Obligations.SavedImageIsLoaded := by
  refine ⟨fun i h => load_saved h, fun page i h => saved_of_load h,
    fun body w hw => Option.eq_none_iff_forall_ne_some.mpr fun i h => hw (checkWord_of_load h),
    fun a b body hformat => Option.eq_none_iff_forall_ne_some.mpr fun i h => hformat (format_of_load h), ?_, ?_⟩
  · intro vs hlength hfits page
    have hfit : Fitting vs := ⟨hlength, hfits⟩
    refine ⟨fun ⟨g, k, v, hv, hbad⟩ => Option.eq_none_iff_forall_ne_some.mpr fun i h => ?_,
      fun hallows i hi hfails => Option.eq_none_iff_forall_ne_some.mpr fun j h => ?_⟩
    · obtain ⟨hread, -⟩ := (loadPage_pageOf (hfit.length_joinGroups Group.all)).mp h
      exact hbad (hfit.fieldsRead_iff.mp hread g k v hv)
    · obtain ⟨-, hsound, -⟩ := (loadPage_pageOf (hfit.length_joinGroups Group.all)).mp h
      rw [hfit.imageOf_eq hallows hi, sound_iff] at hsound
      obtain ⟨hcross, hbudget, hperiod⟩ := hsound
      rcases hfails with ⟨g, k, hk⟩ | hover | hlong
      · rw [hcross g] at hk
        cases hk
      · exact absurd hbudget (Nat.not_le.mpr hover)
      · exact absurd hperiod (Nat.not_le.mpr hlong)
  · intro i s hvalid hreset hjob u
    have hsaved : u = notify .storeDone { s with store := { s.store with page := i.pageBytes, state := .valid, job := none } } :=
      foldl_programmed (pre := []) (List.cons_ne_nil _ _) hjob
    refine ⟨hsaved, fun cause straps q => ?_⟩
    have hload : loadPage u.store.page = some i := by
      rw [hsaved]
      exact load_saved hvalid
    obtain ⟨t, hexec, -, -, -, -, himage, hstate, hsource, hlive, -⟩ := fullResetStartsUp cause straps q u
    rw [hload] at himage hstate hsource
    refine ⟨t, hexec, himage, ?_, hstate, hsource⟩
    rw [hlive, himage]
    rfl

end Sys2Proof.Proofs
end
